-- ==== Sys2Proof/Word.lean ====
section
/-! DEFINITION. The word types of the spec: bytes, ROM addresses and 24-bit colours. All of the block's values are
unsigned (R9), so fixed-width bit vectors carry them. -/

namespace Sys2Proof

/-- One byte of the asset ROM (R50). -/
abbrev Byte := BitVec 8

/-- A ROM byte address: 32 bits wide (`ROM_AW`, R6). -/
abbrev Addr := BitVec 32

/-- A 24-bit colour, `R` in bits 23:16, `G` in 15:8, `B` in 7:0 (R83). -/
abbrev Colour := BitVec 24

end Sys2Proof
end

