-- ==== Sys2Proof/Syntax.lean ====
section
/-! DEFINITION. One constructor for each row of spec/opcode_table.json: the seven ROM data words the block decodes,
the six port transactions, and the nineteen internal operations. -/

namespace Sys2Proof

/-- The rows of the opcode table with their operands. A constructor's operands are the fields the spec gives the row;
the internal operations carry the operands of their rule's heading. -/
inductive Instr where
  /-- `RUN`: palette index `p` and run length `l` in source pixels (R81). -/
  | run (p : BitVec 4) (l : BitVec 12)
  /-- `PAL`: one palette entry; the unused high byte is dropped (R83). -/
  | pal (r g b : BitVec 8)
  /-- `FDIR`: address and number of a frame's run words (R84). -/
  | fdir (addr words : BitVec 32)
  /-- `MDIR`: address and number of a measure's notes; the reserved bytes are dropped (R85). -/
  | mdir (addr : BitVec 32) (count : BitVec 8)
  /-- `NOTE`: the three voice values and the duration code (R86). -/
  | note (f0 f1 f2 dc : BitVec 8)
  /-- `SEQ`: a measure index of the SongSequence (R87). -/
  | seq (m : BitVec 8)
  /-- `DUR`: a hold time in milliseconds (R88). -/
  | dur (t : BitVec 16)
  /-- `DISP_SETWIN` (R90). -/
  | dispSetwin (x0 y0 x1 y1 : BitVec 16)
  /-- `DISP_BEGIN` (R91). -/
  | dispBegin
  /-- `DISP_PIXEL` (R92). -/
  | dispPixel (r g b : BitVec 8)
  /-- `DISP_RESERVED`: command code `0b11`, which the block never emits (R89). -/
  | dispReserved
  /-- `SND_SET`: voice `v` to value `f` (R93). -/
  | sndSet (v : BitVec 2) (f : BitVec 8)
  /-- `IN_REARM` (R94). -/
  | inRearm
  /-- `INIT` (R232). -/
  | init
  /-- `ITERATE` (R172). -/
  | iterate
  /-- `POLL_INPUT` (R173). -/
  | pollInput
  /-- `MUTE` (R174). -/
  | mute
  /-- `UNMUTE` (R175). -/
  | unmute
  /-- `VIDEO_TICK` (R177). -/
  | videoTick
  /-- `DECODE_FRAME(f)` (R110). -/
  | decodeFrame (f : BitVec 8)
  /-- `DECODE_ROW`, on `RP` and `REM` (R112). -/
  | decodeRow
  /-- `EXPAND_RUN`, on `CUR_P`, `CUR_L` and `X` (R113). -/
  | expandRun
  /-- `RENDER_LINE(r)` (R117). -/
  | renderLine (r : BitVec 16)
  /-- `AUDIO_TICK` (R178). -/
  | audioTick
  /-- `ADVANCE`, on `SEQ_POS` and `NOTE_IDX` (R143). -/
  | advance
  /-- `MEAS(p)` (R141). -/
  | meas (p : BitVec 8)
  /-- `NORMALISE(pos, idx)` (R142). -/
  | normalise (pos idx : BitVec 8)
  /-- `NEXT(p, i)` (R144). -/
  | next (p i : BitVec 8)
  /-- `DUR_LOOKUP(c)` (R145). -/
  | durLookup (c : BitVec 8)
  /-- `MUTED_FALLBACK` (R147). -/
  | mutedFallback
  /-- `SONG_EMPTY_PAUSE` (R148). -/
  | songEmptyPause
  /-- `PASSED(now, dl)`; both are `CLK_W` bits wide, a parameter, so they stand as numbers (R170). -/
  | passed (now dl : Nat)
  deriving DecidableEq, Repr

end Sys2Proof
end

