-- ==== Sys2Proof/Config.lean ====
section
/-! DEFINITION. What an implementation fixes: the elaboration parameters of R6 with their legality (R7), the levels of
the input pins (R35), and the free values of the spec as opaque constants. -/

namespace Sys2Proof

/-- The elaboration parameters of R6 that can vary (`NPAL` = 16 and `NV` = 3 are fixed). -/
structure Params where
  /-- `W`, display width in pixels. -/
  w : Nat
  /-- `H`, display height in pixels (OPEN in the spec). -/
  h : Nat
  /-- `S`, integer scale factor. -/
  s : Nat
  /-- `NF`, number of frames. -/
  nf : Nat
  /-- `K`, SongSequence length. -/
  k : Nat
  /-- `M`, number of measures. -/
  m : Nat
  /-- `ND`, duration table entries. -/
  nd : Nat
  /-- `FALLBACK_MS`, the muted wait. -/
  fallbackMs : Nat
  /-- `FRAME_PERIOD_MS`, the video frame period (OPEN in the spec). -/
  framePeriodMs : Nat
  /-- `CLK_W`, width of the millisecond counter. -/
  clkW : Nat
  /-- `ROM_SIZE` in bytes. -/
  romSize : Nat
  /-- `PAL_BASE`. -/
  palBase : Nat
  /-- `FDIR_BASE`. -/
  fdirBase : Nat
  /-- `DUR_BASE`. -/
  durBase : Nat
  /-- `MDIR_BASE`. -/
  mdirBase : Nat
  /-- `SEQ_BASE`. -/
  seqBase : Nat
  deriving DecidableEq, Repr

namespace Params

/-- `WS = W / S`, source pixels per row (R6). -/
def ws (c : Params) : Nat := c.w / c.s

/-- `RS = H / S`, source rows per frame (R6, conflict C2). -/
def rs (c : Params) : Nat := c.h / c.s

/-- The modulus `2^CLK_W` of every time value (R9, R170). -/
def clkMod (c : Params) : Nat := 2 ^ c.clkW

/-- The ranges R6 gives the geometry, the counter width and the ROM size. -/
def inRange (c : Params) : Bool :=
  1 ≤ c.w && c.w ≤ 65536 && 1 ≤ c.h && c.h ≤ 65536 && 17 ≤ c.clkW && c.clkW ≤ 64 &&
    1 ≤ c.romSize && c.romSize ≤ 2 ^ 32

/-- R7, first item: `S >= 1` divides the width and the height. -/
def scaleLegal (c : Params) : Bool :=
  1 ≤ c.s && c.w % c.s == 0 && c.h % c.s == 0

/-- R7, second and third items: both waits stay under half the counter's range. -/
def waitsLegal (c : Params) : Bool :=
  c.fallbackMs < 2 ^ (c.clkW - 1) && c.framePeriodMs < 2 ^ (c.clkW - 1)

/-- R7, fourth item: `K`, `M`, `NF` and `ND` are in 1..256. -/
def countsLegal (c : Params) : Bool :=
  1 ≤ c.k && c.k ≤ 256 && 1 ≤ c.m && c.m ≤ 256 && 1 ≤ c.nf && c.nf ≤ 256 && 1 ≤ c.nd && c.nd ≤ 256

/-- R7, fifth item: each fixed table of R54 lies wholly below `ROM_SIZE`. -/
def tablesLegal (c : Params) : Bool :=
  c.palBase + 4 * 16 ≤ c.romSize && c.fdirBase + 8 * c.nf ≤ c.romSize && c.durBase + 2 * c.nd ≤ c.romSize &&
    c.mdirBase + 8 * c.m ≤ c.romSize && c.seqBase + c.k ≤ c.romSize

/-- R7: the assignment is legal. -/
def legal (c : Params) : Bool :=
  c.inRange && c.scaleLegal && c.waitsLegal && c.countsLegal && c.tablesLegal

end Params

/-- The levels of the block's input ports at one step (R35). `rom_data` is the ROM's own content (R59) and has no
field of its own. -/
structure Pins where
  /-- `rst`: synchronous, active high (R230). -/
  rst : Bool
  /-- `ms_now`: the millisecond counter, read modulo `2^CLK_W` (R36). -/
  msNow : Nat
  /-- `mute_n`: active-low mute request (R37). -/
  muteN : Bool
  /-- `unmute_n`: active-low unmute request (R37). -/
  unmuteN : Bool
  /-- `disp_ready` (R38). -/
  dispReady : Bool
  /-- `snd_ready` (R39). -/
  sndReady : Bool
  /-- `rom_ack` (R40). -/
  romAck : Bool
  deriving DecidableEq, Repr, Inhabited

/-- The byte a ROM address reads as that the environment has placed nothing at. DESIGN CHOICE (log 5), unsafe. -/
def Config.romFill : Byte := 0

/-- `H` of the built block: OPEN in the spec, so no value is chosen (R6, log 1). -/
opaque Config.displayHeight : Nat

/-- `K` of the built block: any 1..256 (R6, log 1). -/
opaque Config.songLength : Nat

/-- `M` of the built block: any 1..256 (R6, log 1). -/
opaque Config.measureCount : Nat

/-- `ND` of the built block: any 1..256 (R6, log 1). -/
opaque Config.durationCount : Nat

/-- `FRAME_PERIOD_MS` of the built block: OPEN in the spec (R6, log 1). -/
opaque Config.framePeriod : Nat

/-- `ROM_SIZE` of the built block (R6, log 1). -/
opaque Config.romSize : Nat

/-- `PAL_BASE` of the built block (R6, log 1). -/
opaque Config.palBase : Nat

/-- `FDIR_BASE` of the built block (R6, log 1). -/
opaque Config.fdirBase : Nat

/-- `DUR_BASE` of the built block (R6, log 1). -/
opaque Config.durBase : Nat

/-- `MDIR_BASE` of the built block (R6, log 1). -/
opaque Config.mdirBase : Nat

/-- `SEQ_BASE` of the built block (R6, log 1). -/
opaque Config.seqBase : Nat

/-- The `n`-th free ROM byte: what a read at or past `ROM_SIZE` returns (R53, U4, log 6). -/
opaque Config.freeByte : Nat → Byte

/-- The `n`-th free `rom_addr`: the order of ROM reads is unspecified (R40, log 12). -/
opaque Config.freeRomAddr : Nat → Addr

/-- `LINE[x]` after the `n`-th reset: any value per entry (R31, U1, log 4). -/
opaque Config.freeLine : Nat → Nat → Colour

/-- The pin levels of the `n`-th step for which no schedule is given: the environment's draw (R215, log 7). -/
opaque Config.envPins : Nat → Pins

/-- The parameters of the built block: the reference values of R6 where it gives one, else the opaque constants
above. `CLK_W` is the decided 32 (log 1). -/
def Config.built : Params where
  w := 320
  h := Config.displayHeight
  s := 4
  nf := 12
  k := Config.songLength
  m := Config.measureCount
  nd := Config.durationCount
  fallbackMs := 10000
  framePeriodMs := Config.framePeriod
  clkW := 32
  romSize := Config.romSize
  palBase := Config.palBase
  fdirBase := Config.fdirBase
  durBase := Config.durBase
  mdirBase := Config.mdirBase
  seqBase := Config.seqBase

end Sys2Proof
end

