-- ==== Sys2Proof/WellFormed.lean ====
section
/-! DEFINITION. When an instruction is one the block can carry out: the reserved codes are never emitted (R95), a
window is not empty (R90), and operands lie in the ranges their rules give under a parameter assignment. -/

namespace Sys2Proof

/-- The checks that need no parameter. `DISP_RESERVED` and voice 3 are never emitted (R89, R93); a window has
`x0 <= x1` and `y0 <= y1` (R90); a time value has at most 64 bits (`CLK_W`, R6). -/
def Instr.wellFormed : Instr → Bool
  | .run _ _ => true
  | .pal _ _ _ => true
  | .fdir _ _ => true
  | .mdir _ _ => true
  | .note _ _ _ _ => true
  | .seq _ => true
  | .dur _ => true
  | .dispSetwin x0 y0 x1 y1 => x0.toNat ≤ x1.toNat && y0.toNat ≤ y1.toNat
  | .dispBegin => true
  | .dispPixel _ _ _ => true
  | .dispReserved => false
  | .sndSet v _ => v.toNat < 3
  | .inRearm => true
  | .init => true
  | .iterate => true
  | .pollInput => true
  | .mute => true
  | .unmute => true
  | .videoTick => true
  | .decodeFrame _ => true
  | .decodeRow => true
  | .expandRun => true
  | .renderLine _ => true
  | .audioTick => true
  | .advance => true
  | .meas _ => true
  | .normalise _ _ => true
  | .next _ _ => true
  | .durLookup _ => true
  | .mutedFallback => true
  | .songEmptyPause => true
  | .passed now dl => now < 2 ^ 64 && dl < 2 ^ 64

/-- The operand ranges of the rules, under the parameters `c`: a window lies on the display (R90), a frame index is
below `NF` (R110), a row below `RS` (R117), a sequence position below `K` (R141, R142, R144), a time value below
`2^CLK_W` (R170). -/
def Instr.admitted (c : Params) : Instr → Bool
  | .run _ _ => true
  | .pal _ _ _ => true
  | .fdir _ _ => true
  | .mdir _ _ => true
  | .note _ _ _ _ => true
  | .seq _ => true
  | .dur _ => true
  | .dispSetwin x0 y0 x1 y1 =>
      x0.toNat ≤ x1.toNat && y0.toNat ≤ y1.toNat && x1.toNat < c.w && y1.toNat < c.h
  | .dispBegin => true
  | .dispPixel _ _ _ => true
  | .dispReserved => false
  | .sndSet v _ => v.toNat < 3
  | .inRearm => true
  | .init => true
  | .iterate => true
  | .pollInput => true
  | .mute => true
  | .unmute => true
  | .videoTick => true
  | .decodeFrame f => f.toNat < c.nf
  | .decodeRow => true
  | .expandRun => true
  | .renderLine r => r.toNat < c.rs
  | .audioTick => true
  | .advance => true
  | .meas p => p.toNat < c.k
  | .normalise pos _ => pos.toNat < c.k
  | .next p _ => p.toNat < c.k
  | .durLookup _ => true
  | .mutedFallback => true
  | .songEmptyPause => true
  | .passed now dl => now < c.clkMod && dl < c.clkMod

end Sys2Proof
end

