-- ==== Sys2Proof/Decode.lean ====
section
/-! DEFINITION. The bit layouts of 30_encoding.md: the decoder of every data word and port word, total and rejecting
by name, and after it the encoder. A word alone does not say which row it belongs to (every 16-bit value is both a RUN
and a DUR word): the place it is read from, or the port it stands at, says so. `Channel` names that place. -/

namespace Sys2Proof

/-- Where a word stands: the table it is read from (R54), or the port it is offered at (R35). -/
inductive Channel where
  | run | pal | fdir | mdir | note | seq | dur
  /-- The display port: `disp_cmd` above the 64 bits of `disp_data`. -/
  | disp
  /-- The sound port: `snd_voice` above the 8 bits of `snd_freq`. -/
  | snd
  /-- The re-arm strobe. -/
  | rearm
  deriving DecidableEq, Repr

/-- The fixed width of each format in bits (R80). -/
def Channel.width : Channel → Nat
  | .run => 16
  | .pal => 32
  | .fdir => 64
  | .mdir => 64
  | .note => 32
  | .seq => 8
  | .dur => 16
  | .disp => 66
  | .snd => 10
  | .rearm => 1

/-- Why a word is no row of the table. -/
inductive Reject where
  /-- The number has a bit at or above the format's width. -/
  | tooWide
  /-- A display word carries a bit where the block emits 0 (R91, R92, R95). -/
  | payloadNotZero
  /-- `snd_voice = 3`, never emitted (R93). -/
  | reservedVoice
  /-- `rearm` is 0: no strobe (R94). -/
  | noStrobe
  deriving DecidableEq, Repr

/-! ### Decoding -/

/-- `RUN`: `P = w[15:12]`, `L = w[11:0]` (R81). -/
def decodeRun (w : BitVec 16) : Instr := .run (w.extractLsb' 12 4) (w.extractLsb' 0 12)

/-- `PAL`: bits 31:24 are ignored (R83). -/
def decodePal (w : BitVec 32) : Instr := .pal (w.extractLsb' 16 8) (w.extractLsb' 8 8) (w.extractLsb' 0 8)

/-- `FDIR`: bytes 0 to 3 are `FADDR`, bytes 4 to 7 `FWORDS` (R84). -/
def decodeFdir (w : BitVec 64) : Instr := .fdir (w.extractLsb' 0 32) (w.extractLsb' 32 32)

/-- `MDIR`: bytes 0 to 3 are `MADDR`, byte 4 `MCOUNT`, bytes 5 to 7 ignored (R85). -/
def decodeMdir (w : BitVec 64) : Instr := .mdir (w.extractLsb' 0 32) (w.extractLsb' 32 8)

/-- `NOTE`: bytes 0 to 3 are `F0`, `F1`, `F2`, `DC` (R86). -/
def decodeNote (w : BitVec 32) : Instr :=
  .note (w.extractLsb' 0 8) (w.extractLsb' 8 8) (w.extractLsb' 16 8) (w.extractLsb' 24 8)

/-- The display port's command and payload (R89 to R92); payload bits that carry no field are 0 (R95). -/
def decodeDisp (cmd : BitVec 2) (data : BitVec 64) : Except Reject Instr :=
  if cmd = 0 then
    .ok (.dispSetwin (data.extractLsb' 0 16) (data.extractLsb' 16 16) (data.extractLsb' 32 16) (data.extractLsb' 48 16))
  else if cmd = 1 then
    if data = 0 then .ok .dispBegin else .error .payloadNotZero
  else if cmd = 2 then
    if data.extractLsb' 24 40 = 0 then
      .ok (.dispPixel (data.extractLsb' 16 8) (data.extractLsb' 8 8) (data.extractLsb' 0 8))
    else .error .payloadNotZero
  else .ok .dispReserved

/-- The sound port's voice and value (R93). -/
def decodeSnd (v : BitVec 2) (f : BitVec 8) : Except Reject Instr :=
  if v = 3 then .error .reservedVoice else .ok (.sndSet v f)

/-- The instruction that the number `w` is at channel `c`, its bit 0 the word's bit 0. -/
def decode (c : Channel) (w : Nat) : Except Reject Instr :=
  if 2 ^ c.width ≤ w then .error .tooWide
  else match c with
    | .run => .ok (decodeRun (BitVec.ofNat 16 w))
    | .pal => .ok (decodePal (BitVec.ofNat 32 w))
    | .fdir => .ok (decodeFdir (BitVec.ofNat 64 w))
    | .mdir => .ok (decodeMdir (BitVec.ofNat 64 w))
    | .note => .ok (decodeNote (BitVec.ofNat 32 w))
    | .seq => .ok (.seq (BitVec.ofNat 8 w))
    | .dur => .ok (.dur (BitVec.ofNat 16 w))
    | .disp => decodeDisp (BitVec.ofNat 2 (w / 2 ^ 64)) (BitVec.ofNat 64 w)
    | .snd => decodeSnd (BitVec.ofNat 2 (w / 2 ^ 8)) (BitVec.ofNat 8 w)
    | .rearm => if w = 1 then .ok .inRearm else .error .noStrobe

/-- The little-endian value of a list of bytes, the first the least significant (R52, R55). -/
def littleEndian : List Byte → Nat
  | [] => 0
  | b :: bs => b.toNat + 256 * littleEndian bs

/-- A data word decoded from its bytes in ascending address order (R55). -/
def decodeBytes (c : Channel) (bs : List Byte) : Except Reject Instr := decode c (littleEndian bs)

/-! ### Encoding -/

/-- `disp_data` of a window (R90). -/
def setwinData (x0 y0 x1 y1 : BitVec 16) : BitVec 64 := y1 ++ x1 ++ y0 ++ x0

/-- `disp_data` of a pixel (R92). -/
def pixelData (r g b : BitVec 8) : BitVec 64 := (0 : BitVec 40) ++ r ++ g ++ b

/-- `disp_cmd` and `disp_data` as one number, the command above the payload. -/
def dispWord (cmd : BitVec 2) (data : BitVec 64) : Nat := cmd.toNat * 2 ^ 64 + data.toNat

/-- The channel and the word of an instruction, or none where the spec gives it no bit encoding: the internal
operations are selected by `PHASE`, not by a word. Ignored bits are written as 0. -/
def encode : Instr → Option (Channel × Nat)
  | .run p l => some (.run, (p ++ l).toNat)
  | .pal r g b => some (.pal, ((0 : BitVec 8) ++ r ++ g ++ b).toNat)
  | .fdir a n => some (.fdir, (n ++ a).toNat)
  | .mdir a n => some (.mdir, ((0 : BitVec 24) ++ n ++ a).toNat)
  | .note f0 f1 f2 dc => some (.note, (dc ++ f2 ++ f1 ++ f0).toNat)
  | .seq m => some (.seq, m.toNat)
  | .dur t => some (.dur, t.toNat)
  | .dispSetwin x0 y0 x1 y1 => some (.disp, dispWord 0 (setwinData x0 y0 x1 y1))
  | .dispBegin => some (.disp, dispWord 1 0)
  | .dispPixel r g b => some (.disp, dispWord 2 (pixelData r g b))
  | .dispReserved => some (.disp, dispWord 3 0)
  | .sndSet v f => some (.snd, (v ++ f).toNat)
  | .inRearm => some (.rearm, 1)
  | .init => none
  | .iterate => none
  | .pollInput => none
  | .mute => none
  | .unmute => none
  | .videoTick => none
  | .decodeFrame _ => none
  | .decodeRow => none
  | .expandRun => none
  | .renderLine _ => none
  | .audioTick => none
  | .advance => none
  | .meas _ => none
  | .normalise _ _ => none
  | .next _ _ => none
  | .durLookup _ => none
  | .mutedFallback => none
  | .songEmptyPause => none
  | .passed _ _ => none

/-- The little-endian bytes of an `n`-byte word (R55). -/
def toBytes : Nat → Nat → List Byte
  | 0, _ => []
  | n + 1, w => BitVec.ofNat 8 w :: toBytes n (w / 256)

/-! ### Words as the opcode table numbers them -/

/-- The channel and word of `nbits` table bits. The width alone decides (log 11): where two rows share a width the
first row of the table is meant. The table counts only `disp_cmd` for the display rows (2 bits, 8 in whole bytes), so
the payload, every bit above, is 0; an 8-bit number above 3 is a SEQ entry. -/
def tableChannel (nbits w : Nat) : Option (Channel × Nat) :=
  match nbits with
  | 1 => some (.rearm, w)
  | 2 => some (.disp, w * 2 ^ 64)
  | 8 => if w < 4 then some (.disp, w * 2 ^ 64) else some (.seq, w)
  | 10 => some (.snd, w)
  | 16 => some (.run, w)
  | 32 => some (.pal, w)
  | 64 => some (.fdir, w)
  | 66 => some (.disp, w)
  | 72 => some (.disp, w)
  | _ => none

/-- The instruction the decoder reads from an instruction whose table bits are `w`. -/
def decodeTableWord (nbits w : Nat) : Option Instr :=
  match tableChannel nbits w with
  | none => none
  | some (c, v) =>
    match decode c v with
    | .ok i => some i
    | .error _ => none

end Sys2Proof
end

