-- ==== Sys2Proof/Machine/State.lean ====
section
/-! DEFINITION. The block's state as plain data (10_state.md), the reasons a step can stop, and the state after
reset (70_reset_and_hazards.md R230, R231). -/

namespace Sys2Proof.Machine

/-- `PHASE`, the control-sequencer position (R29). -/
inductive Phase where
  | init | poll | req | video | audio
  deriving DecidableEq, Repr

/-- A playback cursor: sequence position and note index within the measure (R25, R26). -/
structure Cursor where
  pos : BitVec 8
  idx : BitVec 8
  deriving DecidableEq, Repr

/-- What MEAS returns: the note-array address and the note count (R141). -/
structure Measure where
  addr : Addr
  cnt : BitVec 8
  deriving DecidableEq, Repr

/-- One event of the trace the environment sees (R14). -/
inductive Event where
  /-- A clock sample of value `t` (R36). -/
  | clock (t : Nat)
  /-- The levels of `mute_n` and `unmute_n` at an input sample (R37). -/
  | input (muteN unmuteN : Bool)
  /-- An `IN_REARM` strobe (R94). -/
  | rearm
  /-- An accepted display transaction (R38). -/
  | disp (cmd : BitVec 2) (data : BitVec 64)
  /-- An accepted sound transaction (R39). -/
  | snd (voice : BitVec 2) (freq : BitVec 8)
  deriving DecidableEq, Repr

/-- A sub-step still to run of the operation in progress (R29; the representation is the model's, log 9). -/
inductive Task where
  /-- Run one row of the opcode table. -/
  | op (i : Instr)
  /-- An encoded word of `nbits` table bits standing at the sequencer: decode it and run it (log 11). -/
  | word (nbits w : Nat)
  /-- `ROW <- r` (R110). -/
  | setRow (r : BitVec 16)
  /-- `if REM != 0: flag FRAME_LONG` (R110, R116). -/
  | frameEnd
  /-- The end of a video tick that rendered: `VIDEO_DL` advances (R177). -/
  | videoEnd
  /-- `(SEQ_POS, NOTE_IDX) <- NEXT(p, i)`, with NEXT's result at hand (R143). -/
  | storeCursor
  /-- `(SEQ_POS, NOTE_IDX) <- (0, 0)` (R148, R174). -/
  | clearCursor
  /-- `return FALLBACK_MS` (R147, R148). -/
  | returnFallback
  /-- The end of an audio tick that was due: `AUDIO_DL` advances (R178). -/
  | audioEnd
  /-- The end of a mute transition: `AUDIO_DL <- NOW + FALLBACK_MS` (R174). -/
  | muteEnd
  /-- Steps 2 and 3 of the iteration: act on the sampled requests (R172, R176). -/
  | request
  deriving DecidableEq, Repr

/-- The asset ROM's placed bytes: addresses strictly rising, no entry equal to `Config.romFill`, which is what an
unlisted address reads as (R50, log 5). -/
abbrev Memory := List Host.Cell

/-- The machine's state. -/
structure State where
  /-- The elaboration parameters (R6); no step writes them (R34). -/
  cfg : Params
  /-- `PHASE` (R29). -/
  phase : Phase
  /-- `FRAME_IDX` (R21). -/
  frameIdx : BitVec 8
  /-- `VIDEO_DL`, below `2^CLK_W` (R22). -/
  videoDl : Nat
  /-- `AUDIO_DL`, below `2^CLK_W` (R23). -/
  audioDl : Nat
  /-- `MUTED` (R24). -/
  muted : Bool
  /-- `SEQ_POS` (R25). -/
  seqPos : BitVec 8
  /-- `NOTE_IDX` (R26). -/
  noteIdx : BitVec 8
  /-- `NOW`, below `2^CLK_W` (R28). -/
  now : Nat
  /-- The last clock sample since reset, which the next one must not fall behind (R215, R216); the environment's side,
  no register of the block and the model's own (log 15). -/
  lastSample : Option Nat
  /-- `PAL[0..15]` (R30). -/
  pal : Vector Colour 16
  /-- `LINE[0..W-1]` (R31). -/
  line : List Colour
  /-- `ROW` (R32). -/
  row : BitVec 16
  /-- `RP` (R32). -/
  rp : Addr
  /-- `REM` (R32). -/
  rem : BitVec 32
  /-- `X`, from 0 to `WS` (R32, log 13). -/
  x : Nat
  /-- `CUR_P` (R32). -/
  curP : BitVec 4
  /-- `CUR_L` (R32). -/
  curL : BitVec 12
  /-- `STATUS` (R33); the output `status` equals it (R41). -/
  status : BitVec 8
  /-- Output `rearm` (R35, R94). -/
  rearm : Bool
  /-- Output `disp_valid`: a display transaction is offered and not accepted yet (R38, log 27). -/
  dispValid : Bool
  /-- Output `disp_cmd` (R89). -/
  dispCmd : BitVec 2
  /-- Output `disp_data` (R90 to R92). -/
  dispData : BitVec 64
  /-- Output `snd_valid`: a sound transaction is offered and not accepted yet (R39, log 27). -/
  sndValid : Bool
  /-- Output `snd_voice` (R93). -/
  sndVoice : BitVec 2
  /-- Output `snd_freq` (R93). -/
  sndFreq : BitVec 8
  /-- Output `rom_req`: a ROM read waits for its answer (R40). -/
  romReq : Bool
  /-- Output `rom_addr` (R40). -/
  romAddr : Addr
  /-- The asset ROM's placed bytes (R50). -/
  rom : Memory
  /-- The levels of the input ports at the current step (R35). -/
  pins : Pins
  /-- The environment's schedule: the pin levels of the coming steps (R215, log 7). -/
  stimulus : List Pins
  /-- How many steps have drawn pin levels; the model's own (log 7). -/
  tick : Nat
  /-- The port events so far, oldest first (R14, log 19). -/
  trace : List Event
  /-- The sub-steps still to run, first first; the model's own (R29, log 9). -/
  todo : List Task
  /-- POLL_INPUT's mute request, until the REQ phase reads it (R172, log 10). -/
  mreq : Bool
  /-- POLL_INPUT's unmute request, until the REQ phase reads it (R172, log 10). -/
  ureq : Bool
  /-- INIT's loop index (R65, log 10). -/
  palIdx : BitVec 4
  /-- The value PASSED returned (R170, log 10). -/
  retPassed : Bool
  /-- The pair MEAS returned (R141, log 10). -/
  retMeas : Measure
  /-- The value NORMALISE returned: `FOUND` a cursor, or `NONE` (R142, log 10). -/
  retFound : Option Cursor
  /-- The cursor NEXT returned (R144, log 10). -/
  retNext : Cursor
  /-- The duration an audio operation returned, in milliseconds (R143, R145, R147, R148, log 14). -/
  retDur : Nat
  /-- How many free values have been drawn; the model's own (log 6). -/
  draws : Nat
  deriving DecidableEq, Repr

/-- Why the machine stops with a fault. -/
inductive Fault where
  /-- Raised by DISP_RESERVED: `disp_cmd = 0b11` is reserved and the block never emits it, so the spec gives it no
  effect (R89, U15). Safe: no step of a run from reset raises it. -/
  | reservedDisplayCommand
  /-- Raised by SND_SET with voice 3, which the block never emits (R93, U15). Safe, as above. -/
  | reservedVoice
  deriving DecidableEq, Repr

/-- Why the machine gives no meaning. -/
inductive Refusal where
  /-- Raised by an arm of `exec` whose instruction has no meaning yet. Safe. -/
  | notModelled (mnemonic : String)
  /-- Raised by INIT under an illegal parameter assignment: such a block is never built (R7, U16, log 2). Safe. -/
  | illegalParameters
  /-- Raised by a step whose sequencer holds a word that no row of the opcode table is; only `withFetchWord` places
  words there (log 11). Safe. -/
  | undecodable
  /-- Raised by INIT, MUTE, UNMUTE, VIDEO_TICK and AUDIO_TICK when the clock sample they take breaks the environment's
  duty: such a run is not modelled (R215, R216), and U6 says to refuse it (log 15). Safe. -/
  | clockAssumption
  deriving DecidableEq, Repr

/-- The machine right after reset under the parameters `c`: the values of R231, outputs idle (R230). Registers the
spec leaves unspecified are 0 (log 3), and `LINE` holds one free value per entry (log 4). -/
def State.resetWith (c : Params) : State where
  cfg := c
  phase := .init
  frameIdx := 0
  videoDl := 0
  audioDl := 0
  muted := false
  seqPos := 0
  noteIdx := 0
  now := 0
  lastSample := none
  pal := Vector.replicate 16 0
  line := (List.range c.w).map (Config.freeLine 0)
  row := 0
  rp := 0
  rem := 0
  x := 0
  curP := 0
  curL := 0
  status := 0
  rearm := false
  dispValid := false
  dispCmd := 0
  dispData := 0
  sndValid := false
  sndVoice := 0
  sndFreq := 0
  romReq := false
  romAddr := 0
  rom := []
  pins := Config.envPins 0
  stimulus := []
  tick := 0
  trace := []
  todo := []
  mreq := false
  ureq := false
  palIdx := 0
  retPassed := false
  retMeas := ⟨0, 0⟩
  retFound := none
  retNext := ⟨0, 0⟩
  retDur := 0
  draws := 0

/-- The machine right after reset: `resetWith` at the built block's parameters. -/
def State.reset : State := State.resetWith Config.built

end Sys2Proof.Machine
end

