-- ==== Sys2Proof/Machine/Flags.lean ====
section
/-! DEFINITION. The sticky `STATUS` flags (R33, R202): the only flags the block has, and `flag NAME` (R13), the only
error primitive. The block has no trap to take and none to return from (R200, R208). -/

namespace Sys2Proof.Machine

/-- The cause codes of R202. -/
inductive Flag where
  | rowOvf | frameShort | frameLong | durBad | seqBad | songEmpty | romRange
  deriving DecidableEq, Repr

/-- The `STATUS` bit of each cause (R33). -/
def flagBit : Flag → Nat
  | .rowOvf => 0
  | .frameShort => 1
  | .frameLong => 2
  | .durBad => 3
  | .seqBad => 4
  | .songEmpty => 5
  | .romRange => 6

/-- The mask with the flag's one bit set. -/
def flagMask (f : Flag) : BitVec 8 := BitVec.twoPow 8 (flagBit f)

/-- `flag NAME`: set one bit of `STATUS` and do nothing else (R13). -/
def State.flag (s : State) (f : Flag) : State := { s with status := s.status ||| flagMask f }

/-- `flag NAME` under a condition. -/
def State.flagIf (s : State) (b : Bool) (f : Flag) : State := if b then s.flag f else s

/-- The flag is set in `STATUS`. -/
def State.flagged (s : State) (f : Flag) : Bool := s.status.getLsbD (flagBit f)

end Sys2Proof.Machine
end

