-- ==== Sys2Proof/Machine/Operands.lean ====
section
/-! DEFINITION. Operand forms: the byte addresses of the tables' entries (R54), the colour a palette index selects,
and the modular time arithmetic of R9, R170 and R171. -/

namespace Sys2Proof.Machine

/-- Address of palette entry `i` (R54). -/
def palAddr (c : Params) (i : Nat) : Nat := c.palBase + 4 * i

/-- Address of frame `f`'s directory entry (R54). -/
def fdirAddr (c : Params) (f : Nat) : Nat := c.fdirBase + 8 * f

/-- Address of duration entry `d` (R54). -/
def durAddr (c : Params) (d : Nat) : Nat := c.durBase + 2 * d

/-- Address of measure `m`'s directory entry (R54). -/
def mdirAddr (c : Params) (m : Nat) : Nat := c.mdirBase + 8 * m

/-- Address of SongSequence entry `p` (R54). -/
def seqAddr (c : Params) (p : Nat) : Nat := c.seqBase + p

/-- Address of note `i` of the measure whose notes start at `a` (R54). -/
def noteAddr (a : Addr) (i : Nat) : Nat := a.toNat + 4 * i

/-- A colour from its channels: `R` in 23:16, `G` in 15:8, `B` in 7:0 (R83). -/
def colourOf (r g b : BitVec 8) : Colour := r ++ g ++ b

/-- The red channel, bits 23:16 (R92). -/
def redOf (c : Colour) : BitVec 8 := c.extractLsb' 16 8

/-- The green channel, bits 15:8 (R92). -/
def greenOf (c : Colour) : BitVec 8 := c.extractLsb' 8 8

/-- The blue channel, bits 7:0 (R92). -/
def blueOf (c : Colour) : BitVec 8 := c.extractLsb' 0 8

/-- `PAL[p]`: every 4-bit index names an entry (R30). -/
def State.palAt (s : State) (p : BitVec 4) : Colour := s.pal.get p.toFin

/-- The source pixels left in the row: `WS - X` (R113). -/
def State.avail (s : State) : Nat := s.cfg.ws - s.x

/-- `(a + b) mod 2^CLK_W` (R171). -/
def timeAdd (c : Params) (a b : Nat) : Nat := (a + b) % c.clkMod

/-- `(a - b) mod 2^CLK_W` (R170). -/
def timeSub (c : Params) (a b : Nat) : Nat := (a + (c.clkMod - b % c.clkMod)) % c.clkMod

/-- Two successive clock samples `t1`, `t2` keep the environment's duty: `t2` lies less than half the counter's range
after `t1`, modulo the wrap (R216, U6). -/
def clockDuty (c : Params) (t1 t2 : Nat) : Bool := timeSub c t2 t1 < 2 ^ (c.clkW - 1)

/-- PASSED(now, dl): the deadline has been reached, wrap-safe (R170). -/
def passedTest (c : Params) (now dl : Nat) : Bool := timeSub c now dl < 2 ^ (c.clkW - 1)

/-- `(FRAME_IDX + 1) mod NF` (R177). -/
def nextFrame (c : Params) (f : BitVec 8) : BitVec 8 := BitVec.ofNat 8 ((f.toNat + 1) % c.nf)

end Sys2Proof.Machine
end

