-- ==== Sys2Proof/Machine/Ops.lean ====
section
/-! DEFINITION. The named operations every meaning is built from: the asset ROM and its reads, the agenda of
sub-steps, the samples, and the ports with their handshakes. The block takes no exception and returns from none
(R200, R208): the one way out of an operation is reset, `State.assertReset`. -/

namespace Sys2Proof.Machine

/-- What a step of this machine answers. -/
abbrev Result := Host.Outcome State Fault Refusal

/-! ### The asset ROM -/

/-- The byte placed at address `a`, or the fill where nothing is placed. -/
def Memory.read : Memory → Nat → Byte
  | [], _ => Config.romFill
  | (b, v) :: rest, a => if b = a then v else Memory.read rest a

/-- The environment places one byte (R234); the fill value leaves no entry, so equal ROMs are equal lists. -/
def Memory.write : Memory → Nat → Byte → Memory
  | [], a, v => if v = Config.romFill then [] else [(a, v)]
  | (b, u) :: rest, a, v =>
    if a < b then (if v = Config.romFill then (b, u) :: rest else (a, v) :: (b, u) :: rest)
    else if a = b then (if v = Config.romFill then rest else (a, v) :: rest)
    else (b, u) :: Memory.write rest a v

/-- Addresses rise strictly from above `lo` on, and no entry holds the fill. -/
def Memory.risingFrom : Memory → Nat → Bool
  | [], _ => true
  | (b, v) :: rest, lo => lo ≤ b && v != Config.romFill && Memory.risingFrom rest (b + 1)

/-- The canonical form. -/
def Memory.wf (m : Memory) : Bool := Memory.risingFrom m 0

/-- The environment places the bytes `bs` at `a` and up, before reset is released (R234). -/
def Memory.load : Memory → Nat → List Byte → Memory
  | m, _, [] => m
  | m, a, b :: bs => Memory.load (Memory.write m a b) (a + 1) bs

/-- The asset ROM loaded from outside the machine (R234, log 11). -/
def State.loadAsset (s : State) (a : Nat) (bs : List Byte) : State := { s with rom := Memory.load s.rom a bs }

/-- One ROM byte, the address modulo `2^32` (R52). At or past `ROM_SIZE` it is a free value drawn afresh, and
`ROM_RANGE` is flagged (R53). -/
def State.romByte (s : State) (a : Nat) : Byte × State :=
  if a % 2 ^ 32 < s.cfg.romSize then (Memory.read s.rom (a % 2 ^ 32), s)
  else (Config.freeByte s.draws, { s.flag .romRange with draws := s.draws + 1 })

/-- `MemRead(addr, n)`: the little-endian value of `n` bytes (R52). -/
def State.memRead (s : State) (a : Nat) : Nat → Nat × State
  | 0 => (0, s)
  | n + 1 =>
    let lo := s.romByte a
    let hi := State.memRead lo.2 (a + 1) n
    (lo.1.toNat + 256 * hi.1, hi.2)

/-! ### The agenda -/

/-- Put sub-steps before those still to run (R29). -/
def State.push (s : State) (ts : List Task) : State := { s with todo := ts ++ s.todo }

/-- The ROM has not answered: the operation `i` is left to run again, with the request out (R206). Which address is
out is unspecified (R40). No register shows anything of what earlier reads of `i` did: a stall stands before the
first of them by the model's choice (log 28). -/
def State.romWait (s : State) (i : Instr) : State :=
  { s.push [.op i] with romReq := true, romAddr := Config.freeRomAddr s.draws, draws := s.draws + 1 }

/-- An operation that reads the ROM goes on when `rom_ack` answers its reads, and waits otherwise (R206, log 12). Its
flags and register writes all come with the answer: whether STATUS already shows a flag of an earlier read of `i` while
a later one is unanswered is open (R58), and here it does not, by the model's choice (log 28). -/
def State.withRom (s : State) (i : Instr) (go : State) : Result :=
  if s.pins.romAck then .next go else .next (s.romWait i)

/-! ### Samples and events -/

/-- Append one event to the trace (R14). -/
def State.record (s : State) (e : Event) : State := { s with trace := s.trace ++ [e] }

/-- `NOW <- sample_clock()` (R28, R36). -/
def State.sampleClock (s : State) : State :=
  { s with
    now := s.pins.msNow % s.cfg.clkMod
    lastSample := some (s.pins.msNow % s.cfg.clkMod)
    trace := s.trace ++ [.clock (s.pins.msNow % s.cfg.clkMod)] }

/-- A clock sample taken now keeps the environment's duty; the first one since reset always does (R215, R216). -/
def State.clockKept (s : State) : Bool :=
  match s.lastSample with
  | none => true
  | some t => clockDuty s.cfg t s.pins.msNow

/-- An operation that samples the clock goes on under R216; a sample that breaks it belongs to a run that is not
modelled, and is refused (R215, U6, log 15). -/
def State.withClock (s go : State) : Result :=
  if s.clockKept then .next go else .refused .clockAssumption

/-- `sample_inputs()`: a line read low is a request (R37). -/
def State.sampleInputs (s : State) : State :=
  { s with mreq := !s.pins.muteN, ureq := !s.pins.unmuteN, trace := s.trace ++ [.input s.pins.muteN s.pins.unmuteN] }

/-- `emit IN_REARM()`: the strobe is 1 for this one step; it has no handshake (R94, R206). -/
def State.rearmStrobe (s : State) : State := { s with rearm := true, trace := s.trace ++ [.rearm] }

/-- Offer one display transaction: it completes if `disp_ready` is 1, else it stays offered and `i` is left to run
again (R38, R206). `disp_valid` is 0 in every state after an acceptance and never shows 1 for a transaction accepted at
the step that offers it: R38 does not say whether the line falls between two offers, and this is the model's choice
(DESIGN CHOICE, log 27). -/
def State.offerDisp (s : State) (i : Instr) (cmd : BitVec 2) (data : BitVec 64) : State :=
  if s.pins.dispReady then
    { s with dispValid := false, dispCmd := cmd, dispData := data, trace := s.trace ++ [.disp cmd data] }
  else { s with dispValid := true, dispCmd := cmd, dispData := data, todo := .op i :: s.todo }

/-- Offer one sound transaction, as `offerDisp` (R39, R206). `snd_valid` is 0 in every state after an acceptance and
never shows 1 for a write accepted at the step that offers it: the model's choice, as there (DESIGN CHOICE, log 27). -/
def State.offerSnd (s : State) (i : Instr) (v : BitVec 2) (f : BitVec 8) : State :=
  if s.pins.sndReady then
    { s with sndValid := false, sndVoice := v, sndFreq := f, trace := s.trace ++ [.snd v f] }
  else { s with sndValid := true, sndVoice := v, sndFreq := f, todo := .op i :: s.todo }

/-- The three voice writes of one operation, voice 0 then 1 then 2 (R146). -/
def voiceTasks (f0 f1 f2 : BitVec 8) : List Task :=
  [.op (.sndSet 0 f0), .op (.sndSet 1 f1), .op (.sndSet 2 f2)]

/-! ### Reset and the start of a step -/

/-- The pin levels of the coming step: the schedule's next, or the environment's draw (log 7). -/
def State.nextPins (s : State) : Pins :=
  match s.stimulus with
  | p :: _ => p
  | [] => Config.envPins s.tick

/-- What every step does first: take the pin levels, and end the one-step strobes `rearm` and `rom_req` (R94). -/
def State.begin (s : State) : State :=
  { s with pins := s.nextPins, stimulus := s.stimulus.tail, tick := s.tick + 1, rearm := false, romReq := false }

/-- `rst = 1`: every register at its reset value, outputs idle, the operation in progress abandoned, no event (R230,
R231, R235). What is not the block's own stays: the ROM, the pins and their schedule, the events already seen, and
the free-value counter (log 20). -/
def State.assertReset (s : State) : State :=
  { State.resetWith s.cfg with
    line := (List.range s.cfg.w).map (Config.freeLine (s.draws + 1))
    rom := s.rom
    pins := s.pins
    stimulus := s.stimulus
    tick := s.tick
    trace := s.trace
    draws := s.draws + 1 }

end Sys2Proof.Machine
end

