-- ==== Sys2Proof/Machine/Ports.lean ====
section
/-! DEFINITION. The port transactions (30_encoding.md R89 to R94): each is one sub-step that completes when its port
accepts. -/

namespace Sys2Proof.Machine

/-- DISP_SETWIN (R90). -/
def execDispSetwin (x0 y0 x1 y1 : BitVec 16) (s : State) : Result :=
  .next (s.offerDisp (.dispSetwin x0 y0 x1 y1) 0 (setwinData x0 y0 x1 y1))

/-- DISP_BEGIN (R91). -/
def execDispBegin (s : State) : Result := .next (s.offerDisp .dispBegin 1 0)

/-- DISP_PIXEL (R92). -/
def execDispPixel (r g b : BitVec 8) (s : State) : Result :=
  .next (s.offerDisp (.dispPixel r g b) 2 (pixelData r g b))

/-- DISP_RESERVED: never emitted by the block, so it stops (R89, R95). -/
def execDispReserved (_s : State) : Result := .fault .reservedDisplayCommand

/-- SND_SET; voice 3 is never emitted (R93). -/
def execSndSet (v : BitVec 2) (f : BitVec 8) (s : State) : Result :=
  if v = 3 then .fault .reservedVoice else .next (s.offerSnd (.sndSet v f) v f)

/-- IN_REARM (R94). -/
def execInRearm (s : State) : Result := .next s.rearmStrobe

end Sys2Proof.Machine
end

