-- ==== Sys2Proof/Machine/Audio.lean ====
section
/-! DEFINITION. The audio sequencer (41_audio.md), with the data words it reads: SEQ, MDIR, NOTE and DUR. A helper
that returns a value leaves it in its result field (log 10). -/

namespace Sys2Proof.Machine

/-- What MEAS does with a measure directory entry (R85, R141). -/
def State.mdirWord (s : State) (a : Addr) (n : BitVec 8) : State := { s with retMeas := ⟨a, n⟩ }

/-- The entry of measure `m` read and returned (R141). -/
def State.readMdir (s : State) (m : BitVec 8) : State :=
  let a := s.memRead (mdirAddr s.cfg m.toNat) 4
  let n := a.2.memRead (mdirAddr s.cfg m.toNat + 4) 1
  n.2.mdirWord (BitVec.ofNat 32 a.1) (BitVec.ofNat 8 n.1)

/-- What MEAS does with a SongSequence entry: a bad one is an empty measure, flagged (R87, R141). -/
def State.seqWord (s : State) (m : BitVec 8) : State :=
  if s.cfg.m ≤ m.toNat then (s.flag .seqBad).mdirWord 0 0 else s.readMdir m

/-- MEAS(p) (R141). -/
def State.meas (s : State) (p : Nat) : State :=
  let m := s.memRead (seqAddr s.cfg p) 1
  m.2.seqWord (BitVec.ofNat 8 m.1)

/-- `CNT(p)` as the last MEAS returned it (R141). -/
def State.cnt (s : State) : Nat := s.retMeas.cnt.toNat

/-- NORMALISE's scan: `n` positions left, at position `p`, from note `i` (R142). -/
def State.scan : Nat → Nat → Nat → State → State
  | 0, _, _, s => { s with retFound := none }
  | n + 1, p, i, s =>
    if i < (s.meas p).cnt then { s.meas p with retFound := some ⟨BitVec.ofNat 8 p, BitVec.ofNat 8 i⟩ }
    else State.scan n ((p + 1) % s.cfg.k) 0 (s.meas p)

/-- NORMALISE(pos, idx) (R142). -/
def State.normalise (s : State) (pos idx : BitVec 8) : State :=
  State.scan s.cfg.k (pos.toNat % s.cfg.k) idx.toNat s

/-- NEXT's scan for a non-empty measure at `q` and up, `n` positions left; past the end it is the wrap (R144). -/
def State.nextScan : Nat → Nat → State → State
  | 0, _, s => { s with retNext := ⟨0, 0⟩ }
  | n + 1, q, s =>
    if 0 < (s.meas q).cnt then { s.meas q with retNext := ⟨BitVec.ofNat 8 q, 0⟩ }
    else State.nextScan n (q + 1) (s.meas q)

/-- NEXT(p, i) (R144). -/
def State.nextNote (s : State) (p i : BitVec 8) : State :=
  if i.toNat + 1 < (s.meas p.toNat).cnt then { s.meas p.toNat with retNext := ⟨p, i + 1⟩ }
  else State.nextScan (s.cfg.k - (p.toNat + 1)) (p.toNat + 1) (s.meas p.toNat)

/-- What DUR_LOOKUP does with a duration entry: it is the duration returned (R88, R145). -/
def State.durWord (s : State) (t : BitVec 16) : State := { s with retDur := t.toNat }

/-- The entry of code `c` read and returned (R145). -/
def State.readDur (s : State) (c : BitVec 8) : State :=
  let t := s.memRead (durAddr s.cfg c.toNat) 2
  t.2.durWord (BitVec.ofNat 16 t.1)

/-- DUR_LOOKUP(c): a bad code is duration 0, flagged (R145). -/
def State.durLookup (s : State) (c : BitVec 8) : State :=
  if s.cfg.nd ≤ c.toNat then (s.flag .durBad).durWord 0 else s.readDur c

/-- What ADVANCE does with a note record: its three voices, then its duration (R86, R143). -/
def noteTasks (f0 f1 f2 dc : BitVec 8) : List Task := voiceTasks f0 f1 f2 ++ [.op (.durLookup dc)]

/-- The sub-steps of a note record read at position `c`: its word, then the next cursor (R143). -/
def playTasks (rec : BitVec 32) (c : Cursor) : List Task :=
  noteTasks (rec.extractLsb' 0 8) (rec.extractLsb' 8 8) (rec.extractLsb' 16 8) (rec.extractLsb' 24 8) ++
    [.op (.next c.pos c.idx), .storeCursor]

/-- ADVANCE at a playable position: MEAS, the note record, and its sub-steps (R143). -/
def State.playNote (s : State) (c : Cursor) : State :=
  let m := s.meas c.pos.toNat
  let r := m.memRead (noteAddr m.retMeas.addr c.idx.toNat) 4
  r.2.push (playTasks (BitVec.ofNat 32 r.1) c)

/-- SONG_EMPTY_PAUSE: silence, the cursor at the start, the long wait (R148). -/
def State.songEmptyPause (s : State) : State :=
  (s.flag .songEmpty).push (voiceTasks 0 0 0 ++ [.clearCursor, .returnFallback])

/-- ADVANCE up to its first voice write (R143). -/
def State.advance (s : State) : State :=
  match (s.normalise s.seqPos s.noteIdx).retFound with
  | none => (s.normalise s.seqPos s.noteIdx).songEmptyPause
  | some c => (s.normalise s.seqPos s.noteIdx).playNote c

/-- MUTED_FALLBACK: silence and the long wait; the cursor is not touched (R147). -/
def State.mutedFallback (s : State) : State := s.push (voiceTasks 0 0 0 ++ [.returnFallback])

/-- `(SEQ_POS, NOTE_IDX) <- c`. -/
def State.setCursor (s : State) (c : Cursor) : State := { s with seqPos := c.pos, noteIdx := c.idx }

/-! ### The meanings of the rows -/

/-- MDIR (R85, R141). -/
def execMdir (a : Addr) (n : BitVec 8) (s : State) : Result := .next (s.mdirWord a n)

/-- NOTE (R86, R143). -/
def execNote (f0 f1 f2 dc : BitVec 8) (s : State) : Result := .next (s.push (noteTasks f0 f1 f2 dc))

/-- SEQ (R87, R141): a bad entry reads no directory entry and cannot wait for the ROM. -/
def execSeq (m : BitVec 8) (s : State) : Result :=
  if s.cfg.m ≤ m.toNat then .next (s.seqWord m) else s.withRom (.seq m) (s.seqWord m)

/-- DUR (R88, R145). -/
def execDur (t : BitVec 16) (s : State) : Result := .next (s.durWord t)

/-- ADVANCE (R143). -/
def execAdvance (s : State) : Result := s.withRom .advance s.advance

/-- MEAS (R141). -/
def execMeas (p : BitVec 8) (s : State) : Result := s.withRom (.meas p) (s.meas p.toNat)

/-- NORMALISE (R142). -/
def execNormalise (pos idx : BitVec 8) (s : State) : Result :=
  s.withRom (.normalise pos idx) (s.normalise pos idx)

/-- NEXT (R144). -/
def execNext (p i : BitVec 8) (s : State) : Result := s.withRom (.next p i) (s.nextNote p i)

/-- DUR_LOOKUP (R145): a bad code reads no entry and cannot wait for the ROM. -/
def execDurLookup (c : BitVec 8) (s : State) : Result :=
  if s.cfg.nd ≤ c.toNat then .next (s.durLookup c) else s.withRom (.durLookup c) (s.durLookup c)

/-- MUTED_FALLBACK (R147). -/
def execMutedFallback (s : State) : Result := .next s.mutedFallback

/-- SONG_EMPTY_PAUSE (R148). -/
def execSongEmptyPause (s : State) : Result := .next s.songEmptyPause

end Sys2Proof.Machine
end

