-- ==== Sys2Proof/Machine/Video.lean ====
section
/-! DEFINITION. The frame decoder/scaler and the render driver (40_video.md), with the data words they read: RUN and
FDIR. -/

namespace Sys2Proof.Machine

/-- Overwrite `n` entries after the first `skip`; entries past the end do not exist, so no write leaves the line
(R31, R113). -/
def fillLine : List Colour → Nat → Nat → Colour → List Colour
  | [], _, _, _ => []
  | c :: cs, skip + 1, n, v => c :: fillLine cs skip n v
  | _ :: cs, 0, n + 1, v => v :: fillLine cs 0 n v
  | c :: cs, 0, 0, _ => c :: cs

/-- The source pixels of the current run that fit in the row: `min(CUR_L, WS - X)` (R113). -/
def State.runFit (s : State) : Nat := min s.curL.toNat s.avail

/-- EXPAND_RUN: the run's colour into the line, clipped at the row's end and flagged (R113, R114). -/
def State.expandRun (s : State) : State :=
  { s.flagIf (decide (s.avail < s.curL.toNat)) .rowOvf with
    line := fillLine s.line (s.x * s.cfg.s) (s.runFit * s.cfg.s) (s.palAt s.curP)
    x := s.x + s.runFit }

/-- What DECODE_ROW does with a decoded run word: `CUR_P`, `CUR_L`, EXPAND_RUN (R112). -/
def State.runWord (s : State) (p : BitVec 4) (l : BitVec 12) : State :=
  State.expandRun { s with curP := p, curL := l }

/-- One pass of DECODE_ROW's loop: read the word at `RP`, step `RP` and `REM`, run the word (R81, R112). -/
def State.runNext (s : State) : State :=
  let r := s.memRead s.rp.toNat 2
  let w := BitVec.ofNat 16 r.1
  State.runWord { r.2 with rp := s.rp + 2, rem := s.rem - 1 } (w.extractLsb' 12 4) (w.extractLsb' 0 12)

/-- DECODE_ROW's loop. Every pass lowers `REM` or returns, so `REM + 1` passes are enough (R112, R115). -/
def State.rowLoop : Nat → State → State
  | 0, s => s
  | fuel + 1, s =>
    if s.x < s.cfg.ws then
      if s.rem = 0 then s.flag .frameShort else State.rowLoop fuel s.runNext
    else s

/-- DECODE_ROW (R112). -/
def State.decodeRow (s : State) : State := State.rowLoop (s.rem.toNat + 1) { s with x := 0 }

/-- What DECODE_FRAME does with a frame directory entry: `RP` and `REM` (R84, R110). -/
def State.fdirWord (s : State) (a n : BitVec 32) : State := { s with rp := a, rem := n }

/-- The sub-steps of DECODE_FRAME: each source row decoded and rendered in order, then the check of R116 (R110). -/
def frameTasks (c : Params) : List Task :=
  ((List.range c.rs).flatMap fun r =>
    [.setRow (BitVec.ofNat 16 r), .op .decodeRow, .op (.renderLine (BitVec.ofNat 16 r))]) ++ [.frameEnd]

/-- DECODE_FRAME(f) up to its first row: read the directory entry, then the rows to come (R110). -/
def State.decodeFrame (s : State) (f : BitVec 8) : State :=
  let a := s.memRead (fdirAddr s.cfg f.toNat) 4
  let n := a.2.memRead (fdirAddr s.cfg f.toNat + 4) 4
  (n.2.fdirWord (BitVec.ofNat 32 a.1) (BitVec.ofNat 32 n.1)).push (frameTasks s.cfg)

/-- The end of DECODE_FRAME: run words left over (R110, R116). -/
def State.frameEnd (s : State) : State := s.flagIf (decide (s.rem ≠ 0)) .frameLong

/-- The DISP_PIXEL of one line entry (R92, R117). -/
def pixelOf (c : Colour) : Instr := .dispPixel (redOf c) (greenOf c) (blueOf c)

/-- The window of source row `r`: the full width, `S` rows from `r*S` (R118). -/
def windowOf (c : Params) (r : Nat) : Instr :=
  .dispSetwin 0 (BitVec.ofNat 16 (r * c.s)) (BitVec.ofNat 16 (c.w - 1)) (BitVec.ofNat 16 (r * c.s + c.s - 1))

/-- RENDER_LINE's transactions in order: the window, the start, and the line `S` times (R117). -/
def renderOps (c : Params) (line : List Colour) (r : Nat) : List Instr :=
  windowOf c r :: .dispBegin :: (List.replicate c.s (line.map pixelOf)).flatten

/-- RENDER_LINE(r): its transactions are the next sub-steps. `LINE` is not written before the last of them (R64),
so reading it here is reading it at each pixel. -/
def State.renderLine (s : State) (r : BitVec 16) : State :=
  s.push ((renderOps s.cfg s.line r.toNat).map .op)

/-! ### The meanings of the rows -/

/-- RUN (R81, R112). -/
def execRun (p : BitVec 4) (l : BitVec 12) (s : State) : Result := .next (s.runWord p l)

/-- FDIR (R84, R110). -/
def execFdir (a n : BitVec 32) (s : State) : Result := .next (s.fdirWord a n)

/-- DECODE_FRAME (R110). -/
def execDecodeFrame (f : BitVec 8) (s : State) : Result := s.withRom (.decodeFrame f) (s.decodeFrame f)

/-- DECODE_ROW (R112). With no run word left, or no pixel wanted, it reads no ROM and cannot wait for it; while it
waits it has expanded no run yet (log 28). -/
def execDecodeRow (s : State) : Result :=
  if s.rem = 0 ∨ s.cfg.ws = 0 then .next s.decodeRow else s.withRom .decodeRow s.decodeRow

/-- EXPAND_RUN (R113). -/
def execExpandRun (s : State) : Result := .next s.expandRun

/-- RENDER_LINE (R117). -/
def execRenderLine (r : BitVec 16) (s : State) : Result := .next (s.renderLine r)

end Sys2Proof.Machine
end

