-- ==== Sys2Proof/Machine/Scheduler.lean ====
section
/-! DEFINITION. The scheduler loop, deadlines and mute control (42_scheduler.md), and INIT (70_reset_and_hazards.md
R232) with the data word it reads, PAL. -/

namespace Sys2Proof.Machine

/-- What INIT does with a palette entry: `PAL[i]`, then the next `i` (R65, R83). -/
def State.palWord (s : State) (r g b : BitVec 8) : State :=
  { s with pal := s.pal.set s.palIdx.toNat (colourOf r g b) s.palIdx.isLt, palIdx := s.palIdx + 1 }

/-- INIT's palette loop, `n` entries from `palIdx` on (R65, R232). -/
def State.loadPalette : Nat → State → State
  | 0, s => s
  | n + 1, s =>
    let e := s.memRead (palAddr s.cfg s.palIdx.toNat) 4
    let w := BitVec.ofNat 32 e.1
    State.loadPalette n (e.2.palWord (w.extractLsb' 16 8) (w.extractLsb' 8 8) (w.extractLsb' 0 8))

/-- INIT: the palette, one clock sample, both deadlines at it (R232). -/
def State.initialise (s : State) : State :=
  let t := (State.loadPalette 16 { s with palIdx := 0 }).sampleClock
  { t with videoDl := t.now, audioDl := t.now, phase := .poll }

/-- The sub-steps of one iteration, the source's five steps (R172). -/
def iterationTasks : List Task := [.op .pollInput, .request, .op .videoTick, .op .audioTick]

/-- ITERATE (R172). -/
def State.iterate (s : State) : State := { s.push iterationTasks with phase := .poll }

/-- POLL_INPUT: the sample, then the re-arm, every iteration (R173). Both fall in one step, so a reset can fall before
both or after both and never between them: the spec gives no cycles between them, and this is the model's choice
(DESIGN CHOICE, log 26). -/
def State.pollInput (s : State) : State := { s.sampleInputs.rearmStrobe with phase := .req }

/-- Steps 2 and 3 of the iteration: mute before unmute (R172, R176). -/
def State.request (s : State) : State :=
  if s.mreq then s.push [.op .mute]
  else if s.ureq then s.push [.op .unmute]
  else { s with phase := .video }

/-- MUTE: nothing while MUTED; else the clock, the silence, the cursor and the deadline (R174). -/
def State.mute (s : State) : State :=
  if s.muted then { s with phase := .video }
  else { s.sampleClock.push (voiceTasks 0 0 0 ++ [.clearCursor, .muteEnd]) with muted := true }

/-- The end of a mute transition: `AUDIO_DL <- (NOW + FALLBACK_MS) mod 2^CLK_W` (R174). -/
def State.muteEnd (s : State) : State := { s with audioDl := timeAdd s.cfg s.now s.cfg.fallbackMs, phase := .video }

/-- UNMUTE: nothing while PLAYING; else the song from the start, due now (R175). -/
def State.unmute (s : State) : State :=
  if s.muted then
    { s.sampleClock.setCursor ⟨0, 0⟩ with muted := false, audioDl := s.sampleClock.now, phase := .video }
  else { s with phase := .video }

/-- PASSED(now, dl) (R170). -/
def State.passed (s : State) (now dl : Nat) : State := { s with retPassed := passedTest s.cfg now dl }

/-- VIDEO_TICK: a fresh sample; if the deadline has passed, the next frame, then the deadline (R177). -/
def State.videoTick (s : State) : State :=
  let t := s.sampleClock.passed s.sampleClock.now s.videoDl
  if t.retPassed then
    { t.push [.op (.decodeFrame (nextFrame s.cfg s.frameIdx)), .videoEnd] with frameIdx := nextFrame s.cfg s.frameIdx }
  else { t with phase := .audio }

/-- `VIDEO_DL <- (VIDEO_DL + FRAME_PERIOD_MS) mod 2^CLK_W` (R171, R177). -/
def State.videoEnd (s : State) : State :=
  { s with videoDl := timeAdd s.cfg s.videoDl s.cfg.framePeriodMs, phase := .audio }

/-- What an audio update that is due runs (R140, R178). -/
def audioUpdate (muted : Bool) : Instr := if muted then .mutedFallback else .advance

/-- AUDIO_TICK: a fresh sample; if the deadline has passed, one update, then the deadline (R178). -/
def State.audioTick (s : State) : State :=
  let t := s.sampleClock.passed s.sampleClock.now s.audioDl
  if t.retPassed then t.push [.op (audioUpdate s.muted), .audioEnd] else { t with phase := .poll }

/-- `AUDIO_DL <- (AUDIO_DL + dur) mod 2^CLK_W` (R171, R178). -/
def State.audioEnd (s : State) : State := { s with audioDl := timeAdd s.cfg s.audioDl s.retDur, phase := .poll }

/-! ### The meanings of the rows -/

/-- PAL (R83, R65). -/
def execPal (r g b : BitVec 8) (s : State) : Result := .next (s.palWord r g b)

/-- INIT; an illegal parameter assignment is refused (R7, R232). It waits for the ROM before it samples the clock,
with no PAL entry written yet (log 28). -/
def execInit (s : State) : Result :=
  if s.cfg.legal then
    if s.pins.romAck then s.withClock s.initialise else .next (s.romWait .init)
  else .refused .illegalParameters

/-- ITERATE (R172). -/
def execIterate (s : State) : Result := .next s.iterate

/-- POLL_INPUT (R173). -/
def execPollInput (s : State) : Result := .next s.pollInput

/-- MUTE; while MUTED it takes no clock sample (R174). -/
def execMute (s : State) : Result := if s.muted then .next s.mute else s.withClock s.mute

/-- UNMUTE; while PLAYING it takes no clock sample (R175). -/
def execUnmute (s : State) : Result := if s.muted then s.withClock s.unmute else .next s.unmute

/-- VIDEO_TICK (R177). -/
def execVideoTick (s : State) : Result := s.withClock s.videoTick

/-- AUDIO_TICK (R178). -/
def execAudioTick (s : State) : Result := s.withClock s.audioTick

/-- PASSED (R170). -/
def execPassed (now dl : Nat) (s : State) : Result := .next (s.passed now dl)

end Sys2Proof.Machine
end

