-- ==== Sys2Proof/Machine/Dispatch.lean ====
section
/-! DEFINITION. One arm per row of the opcode table. -/

namespace Sys2Proof.Machine

def exec (i : Instr) (s : State) : Host.Outcome State Fault Refusal :=
  match i with
  | .run p l => Sys2Proof.Machine.execRun p l s
  | .pal r g b => Sys2Proof.Machine.execPal r g b s
  | .fdir a n => Sys2Proof.Machine.execFdir a n s
  | .mdir a n => Sys2Proof.Machine.execMdir a n s
  | .note f0 f1 f2 dc => Sys2Proof.Machine.execNote f0 f1 f2 dc s
  | .seq m => Sys2Proof.Machine.execSeq m s
  | .dur t => Sys2Proof.Machine.execDur t s
  | .dispSetwin x0 y0 x1 y1 => Sys2Proof.Machine.execDispSetwin x0 y0 x1 y1 s
  | .dispBegin => Sys2Proof.Machine.execDispBegin s
  | .dispPixel r g b => Sys2Proof.Machine.execDispPixel r g b s
  | .dispReserved => Sys2Proof.Machine.execDispReserved s
  | .sndSet v f => Sys2Proof.Machine.execSndSet v f s
  | .inRearm => Sys2Proof.Machine.execInRearm s
  | .init => Sys2Proof.Machine.execInit s
  | .iterate => Sys2Proof.Machine.execIterate s
  | .pollInput => Sys2Proof.Machine.execPollInput s
  | .mute => Sys2Proof.Machine.execMute s
  | .unmute => Sys2Proof.Machine.execUnmute s
  | .videoTick => Sys2Proof.Machine.execVideoTick s
  | .decodeFrame f => Sys2Proof.Machine.execDecodeFrame f s
  | .decodeRow => Sys2Proof.Machine.execDecodeRow s
  | .expandRun => Sys2Proof.Machine.execExpandRun s
  | .renderLine r => Sys2Proof.Machine.execRenderLine r s
  | .audioTick => Sys2Proof.Machine.execAudioTick s
  | .advance => Sys2Proof.Machine.execAdvance s
  | .meas p => Sys2Proof.Machine.execMeas p s
  | .normalise pos idx => Sys2Proof.Machine.execNormalise pos idx s
  | .next p j => Sys2Proof.Machine.execNext p j s
  | .durLookup c => Sys2Proof.Machine.execDurLookup c s
  | .mutedFallback => Sys2Proof.Machine.execMutedFallback s
  | .songEmptyPause => Sys2Proof.Machine.execSongEmptyPause s
  | .passed t dl => Sys2Proof.Machine.execPassed t dl s

end Sys2Proof.Machine
end

