-- ==== Sys2Proof/Machine/Sequencer.lean ====
section
/-! DEFINITION. The control sequencer (R29): which sub-step a step runs, and what the sub-steps that are no row of
the opcode table do. -/

namespace Sys2Proof.Machine

/-- A word standing at the sequencer: decode it and run it (log 11). -/
def runWordTask (nbits w : Nat) (s : State) : Result :=
  match decodeTableWord nbits w with
  | some i => exec i s
  | none => .refused .undecodable

/-- One sub-step, already taken off the agenda. -/
def runTask (t : Task) (s : State) : Result :=
  match t with
  | .op i => exec i s
  | .word nbits w => runWordTask nbits w s
  | .setRow r => .next { s with row := r }
  | .frameEnd => .next s.frameEnd
  | .videoEnd => .next s.videoEnd
  | .storeCursor => .next (s.setCursor s.retNext)
  | .clearCursor => .next (s.setCursor ⟨0, 0⟩)
  | .returnFallback => .next { s with retDur := s.cfg.fallbackMs }
  | .audioEnd => .next s.audioEnd
  | .muteEnd => .next s.muteEnd
  | .request => .next s.request

/-- The operation that begins when no sub-step is left: INIT after reset, and then ITERATE for ever (R29, R172). -/
def nextOperation : Phase → Instr
  | .init => .init
  | .poll => .iterate
  | .req => .iterate
  | .video => .iterate
  | .audio => .iterate

/-- Run the first sub-step of the agenda, or begin the next operation. -/
def State.runHead (s : State) : Result :=
  match s.todo with
  | [] => exec (nextOperation s.phase) s
  | t :: rest => runTask t { s with todo := rest }

/-- The pin levels under which every port accepts, reset is released and no request is made. -/
def acceptingPins (t : Nat) : Pins where
  rst := false
  msNow := t
  muteN := true
  unmuteN := true
  dispReady := true
  sndReady := true
  romAck := true

/-- The word placed where the next step fetches: first on the agenda, with ports that accept it (log 11). -/
def State.placeWord (s : State) (nbits w : Nat) : State :=
  { s with todo := .word nbits w :: s.todo, stimulus := acceptingPins 0 :: s.stimulus }

end Sys2Proof.Machine
end

