-- ==== Sys2Proof/Machine/Step.lean ====
section
/-! DEFINITION. One step of the block. -/

namespace Sys2Proof.Machine

/-- Take the pin levels; under reset, reset (R230); else run one sub-step. -/
def step (s : State) : Host.Outcome State Fault Refusal :=
  if s.begin.pins.rst then .next s.begin.assertReset else s.begin.runHead

/-- `s` with the instruction whose table bits are `w` placed where the next step fetches (log 11). -/
def State.withFetchWord (s : State) (nbits w : Nat) : State := s.placeWord nbits w

end Sys2Proof.Machine
end

