-- ==== Sys2Proof/Safety.lean ====
section
/-! DEFINITION. The terms claims use: what the asset ROM says (read as a pure function, R58), the environment's
duties (R215 to R217), the invariants of the block, and what counts as a legal trace. -/

namespace Sys2Proof.Safety

open Sys2Proof.Machine

/-! ### The asset ROM as a pure function -/

/-- All `n` bytes from `a` on, each address modulo `2^32`, lie below `ROM_SIZE` (R52, R53). -/
def inRom (s : State) (a n : Nat) : Bool := (List.range n).all fun k => (a + k) % 2 ^ 32 < s.cfg.romSize

/-- The little-endian composition of R52, as the sum it is written as there. -/
def romVal (s : State) (a n : Nat) : Nat :=
  ((List.range n).map fun k => (Memory.read s.rom ((a + k) % 2 ^ 32)).toNat * 2 ^ (8 * k)).sum

/-- The measure index at sequence position `p` (R87). -/
def seqOf (s : State) (p : Nat) : Nat := romVal s (seqAddr s.cfg p) 1

/-- What MEAS(p) returns, read from the ROM's contents: a bad entry is the empty measure (R141). -/
def measOf (s : State) (p : Nat) : Measure :=
  if s.cfg.m ≤ seqOf s p then ⟨0, 0⟩
  else ⟨BitVec.ofNat 32 (romVal s (mdirAddr s.cfg (seqOf s p)) 4),
    BitVec.ofNat 8 (romVal s (mdirAddr s.cfg (seqOf s p) + 4) 1)⟩

/-- `CNT(p)` (R141). -/
def cntOf (s : State) (p : Nat) : Nat := (measOf s p).cnt.toNat

/-- The cursors NORMALISE tries, in order (R142). -/
def scanOrder (k pos idx : Nat) : List (Nat × Nat) :=
  (List.range k).map fun j => ((pos + j) % k, if j = 0 then idx else 0)

/-- A pair of numbers as a cursor. -/
def cursorOf (c : Nat × Nat) : Cursor := ⟨BitVec.ofNat 8 c.1, BitVec.ofNat 8 c.2⟩

/-- The first playable cursor at or after `(pos, idx)`, or none (R142). -/
def firstPlayable (s : State) (pos idx : Nat) : Option Cursor :=
  ((scanOrder s.cfg.k pos idx).find? fun c => c.2 < cntOf s c.1).map cursorOf

/-- The first non-empty sequence position above `p` (R144). -/
def nextNonEmpty (s : State) (p : Nat) : Option Nat :=
  ((List.range s.cfg.k).drop (p + 1)).find? fun q => 0 < cntOf s q

/-- The cursor stored after the note `i` of position `p` (R144). -/
def cursorAfter (s : State) (p i : Nat) : Cursor :=
  if i + 1 < cntOf s p then cursorOf (p, i + 1)
  else match nextNonEmpty s p with
    | some q => cursorOf (q, 0)
    | none => ⟨0, 0⟩

/-- The note record of note `i` of the measure at sequence position `p` (R86, R143). -/
def noteOf (s : State) (p i : Nat) : BitVec 32 := BitVec.ofNat 32 (romVal s (noteAddr (measOf s p).addr i) 4)

/-- The duration of code `c`; a bad code is 0 (R145). -/
def durOf (s : State) (c : Nat) : Nat := if s.cfg.nd ≤ c then 0 else romVal s (durAddr s.cfg c) 2

/-- Every note of every sequence position, positions ascending, notes ascending (R149). -/
def songOrder (s : State) : List (Nat × Nat) :=
  (List.range s.cfg.k).flatMap fun p => (List.range (cntOf s p)).map fun i => (p, i)

/-- The run words `runs` stand in the ROM from byte `a` on (R81, R97). -/
def wordsAt (s : State) : Nat → List (BitVec 4 × BitVec 12) → Bool
  | _, [] => true
  | a, (p, l) :: rest => inRom s a 2 && romVal s a 2 == (p ++ l).toNat && wordsAt s (a + 2) rest

/-- The source pixels of a list of runs. -/
def runSum (runs : List (BitVec 4 × BitVec 12)) : Nat := (runs.map fun r => r.2.toNat).sum

/-- The runs are one well-formed row of the block (R120). -/
def rowWellFormed (c : Params) (runs : List (BitVec 4 × BitVec 12)) : Bool :=
  runSum runs == c.ws && (match runs.getLast? with | some r => 0 < r.2.toNat | none => false)

/-- The line a list of runs stands for (R120). -/
def lineOf (s : State) (runs : List (BitVec 4 × BitVec 12)) : List Colour :=
  runs.flatMap fun r => List.replicate (r.2.toNat * s.cfg.s) (s.palAt r.1)

/-- EXPAND_RUN's effect, entry by entry: `n = min(CUR_L, WS - X)` source pixels of colour `PAL[CUR_P]` from `X*S` on,
everything else as it was, `ROW_OVF` exactly when the run does not fit (R113, R114). -/
abbrev expandsTo (s t : State) : Prop :=
  t.x = s.x + min s.curL.toNat (s.cfg.ws - s.x) ∧ t.line.length = s.line.length ∧
    (∀ j, j < s.line.length →
      t.line[j]? = if s.x * s.cfg.s ≤ j ∧ j < t.x * s.cfg.s then some (s.palAt s.curP) else s.line[j]?) ∧
    t = { s with
      line := t.line
      x := t.x
      status := if s.cfg.ws - s.x < s.curL.toNat then s.status ||| 0x01#8 else s.status }

/-- The events of one rendered line: the window of source row `r`, the start, and the line `S` times, a colour being
the low 24 bits of the payload (R90 to R92, R117). -/
def renderEvents (c : Params) (r : Nat) (line : List Colour) : List Event :=
  .disp 0 (setwinData 0 (BitVec.ofNat 16 (r * c.s)) (BitVec.ofNat 16 (c.w - 1)) (BitVec.ofNat 16 (r * c.s + c.s - 1))) ::
    .disp 1 0 :: (List.replicate c.s (line.map fun v => Event.disp 2 (v.setWidth 64))).flatten

/-- A pixel transaction. -/
def isPixel : Event → Bool
  | .disp cmd _ => cmd = 2
  | .clock _ => false
  | .input _ _ => false
  | .rearm => false
  | .snd _ _ => false

/-! ### The environment -/

/-- Pin levels under which nothing waits and no reset is asserted. -/
def accepting (p : Pins) : Bool := !p.rst && p.dispReady && p.sndReady && p.romAck

/-- The schedule makes the coming `n` steps run with accepting pins. -/
def accepts (s : State) (n : Nat) : Bool := n ≤ s.stimulus.length && (s.stimulus.take n).all accepting

/-! ### Legal traces -/

/-- The port codes the block may produce: never `disp_cmd = 0b11`, never `snd_voice = 3`, and 0 in every payload bit
that carries no field (R89 to R95). -/
def eventLegal : Event → Bool
  | .clock _ => true
  | .input _ _ => true
  | .rearm => true
  | .disp cmd data => cmd = 0 || (cmd = 1 && data = 0) || (cmd = 2 && data.extractLsb' 24 40 = 0)
  | .snd v _ => v.toNat < 3

/-- A sound write with a non-zero value. -/
def soundsVoice : Event → Bool
  | .snd _ f => f ≠ 0
  | .clock _ => false
  | .input _ _ => false
  | .rearm => false
  | .disp _ _ => false

/-! ### Invariants -/

/-- The cursor is `(0, 0)` or a playable position (R27). -/
abbrev cursorOk (s : State) (c : Cursor) : Prop := c = ⟨0, 0⟩ ∨ (c.pos.toNat < s.cfg.k ∧ c.idx.toNat < cntOf s c.pos.toNat)

/-- A sub-step is one the block's own operations schedule under the parameters: its operands are in range, and a word
at the sequencer decodes. INIT runs only under legal parameters (R7). -/
def taskAdmitted (c : Params) : Task → Bool
  | .op i => i.admitted c
  | .word nbits w => match decodeTableWord nbits w with
    | some i => i.admitted c
    | none => false
  | .setRow r => r.toNat < c.rs
  | .frameEnd => true
  | .videoEnd => true
  | .storeCursor => true
  | .clearCursor => true
  | .returnFallback => true
  | .audioEnd => true
  | .muteEnd => true
  | .request => true

/-- Every sub-step of the agenda is admitted, and the parameters are legal. -/
abbrev agendaOk (s : State) : Prop := s.cfg.legal = true ∧ ∀ t ∈ s.todo, taskAdmitted s.cfg t = true

/-- The ranges of the registers (R21, R22, R23, R25, R28, R31, R32; ROW below RS), the reserved status bit (R33), and the ROM's
canonical form. -/
abbrev registersOk (s : State) : Prop :=
  s.line.length = s.cfg.w ∧ s.row.toNat < s.cfg.rs ∧ s.x ≤ s.cfg.ws ∧ s.frameIdx.toNat < s.cfg.nf ∧ s.seqPos.toNat < s.cfg.k ∧
    s.now < s.cfg.clkMod ∧ s.videoDl < s.cfg.clkMod ∧ s.audioDl < s.cfg.clkMod ∧
    s.status.getLsbD 7 = false ∧ Memory.wf s.rom = true

/-- The cursor registers and the cursor NEXT last returned are legal (R27). -/
abbrev cursorsOk (s : State) : Prop := cursorOk s ⟨s.seqPos, s.noteIdx⟩ ∧ cursorOk s s.retNext

/-- The display payload an instruction offers. -/
def dispOf : Instr → Option (BitVec 2 × BitVec 64)
  | .dispSetwin x0 y0 x1 y1 => some (0, setwinData x0 y0 x1 y1)
  | .dispBegin => some (1, 0)
  | .dispPixel r g b => some (2, pixelData r g b)
  | _ => none

/-- The sound payload an instruction offers. -/
def sndOf : Instr → Option (BitVec 2 × BitVec 8)
  | .sndSet v f => if v = 3 then none else some (v, f)
  | _ => none

/-- The sub-step at the head of the agenda offers this display payload. -/
def headOffersDisp (s : State) : Option (BitVec 2 × BitVec 64) :=
  match s.todo with
  | .op i :: _ => dispOf i
  | _ => none

/-- The sub-step at the head of the agenda offers this sound payload. -/
def headOffersSnd (s : State) : Option (BitVec 2 × BitVec 8) :=
  match s.todo with
  | .op i :: _ => sndOf i
  | _ => none

/-- What a port holds offered is what the head of the agenda offers (R38, R39). -/
abbrev offersOk (s : State) : Prop :=
  (s.dispValid = true → headOffersDisp s = some (s.dispCmd, s.dispData)) ∧
    (s.sndValid = true → headOffersSnd s = some (s.sndVoice, s.sndFreq))

/-- What the next step runs when reset is not asserted. -/
def running (s : State) : Task :=
  match s.todo with
  | [] => .op (nextOperation s.phase)
  | t :: _ => t

/-- The coming step takes a clock sample when reset is not asserted: the points of R180. INIT samples after its ROM
reads; MUTE and UNMUTE sample only where they make a transition. -/
def samplesClock (s : State) : Bool :=
  match running s with
  | .op .init => s.nextPins.romAck
  | .op .videoTick => true
  | .op .audioTick => true
  | .op .mute => !s.muted
  | .op .unmute => s.muted
  | _ => false

/-- The coming step takes no clock sample that breaks the environment's duty (R215, R216). -/
def dutyKept (s : State) : Bool := s.nextPins.rst || !samplesClock s || s.begin.clockKept

/-- What the next step runs, a word at the sequencer standing for the row it decodes to. -/
def ran (s : State) : Task :=
  match running s with
  | .word nbits w => match decodeTableWord nbits w with
    | some i => .op i
    | none => .word nbits w
  | t => t

/-! ### Which sub-steps may write which register -/

/-- The sub-steps that take a clock sample into `NOW` (R28, R180). -/
def writesNow : Task → Bool
  | .op .init | .op .videoTick | .op .audioTick | .op .mute | .op .unmute => true
  | _ => false

/-- The sub-steps at which `PHASE` may move on (R29, log 9). -/
def writesPhase : Task → Bool
  | .op .init | .op .iterate | .op .pollInput | .op .mute | .op .unmute | .op .videoTick | .op .audioTick
  | .request | .muteEnd | .videoEnd | .audioEnd => true
  | _ => false

/-- The sub-steps that set `RP` and `REM` (R84, R110, R112). -/
def writesRun : Task → Bool
  | .op (.fdir _ _) | .op (.decodeFrame _) | .op .decodeRow => true
  | _ => false

/-- The sub-steps that set `CUR_P` and `CUR_L` (R112). -/
def writesCur : Task → Bool
  | .op (.run _ _) | .op .decodeRow => true
  | _ => false

/-- The sub-steps that write `LINE` and `X` (R31, R112, R113). -/
def writesLine : Task → Bool
  | .op (.run _ _) | .op .expandRun | .op .decodeRow => true
  | _ => false

/-- The sub-steps that may set each flag of `STATUS` (R202 and the rules it names). -/
def mayFlag : Flag → Task → Bool
  | .rowOvf, t => writesLine t
  | .frameShort, t => t = .op .decodeRow
  | .frameLong, t => t = .frameEnd
  | .durBad, .op (.durLookup _) => true
  | .seqBad, .op (.seq _) | .seqBad, .op (.meas _) | .seqBad, .op (.normalise _ _) | .seqBad, .op (.next _ _)
  | .seqBad, .op .advance => true
  | .songEmpty, t => t = .op .advance || t = .op .songEmptyPause
  | .romRange, .op .init | .romRange, .op (.decodeFrame _) | .romRange, .op .decodeRow | .romRange, .op (.seq _)
  | .romRange, .op (.meas _) | .romRange, .op (.normalise _ _) | .romRange, .op (.next _ _)
  | .romRange, .op (.durLookup _) | .romRange, .op .advance => true
  | _, _ => false

/-! ### Video and audio -/

/-- The rows of 40_video.md and the words and transactions they use, with VIDEO_TICK. -/
def isVideo : Instr → Bool
  | .run _ _ | .fdir _ _ | .dispSetwin _ _ _ _ | .dispBegin | .dispPixel _ _ _ | .videoTick | .decodeFrame _
  | .decodeRow | .expandRun | .renderLine _ => true
  | _ => false

/-- The rows of 41_audio.md and the words and transactions they use, with AUDIO_TICK. -/
def isAudio : Instr → Bool
  | .mdir _ _ | .note _ _ _ _ | .seq _ | .dur _ | .sndSet _ _ | .audioTick | .advance | .meas _ | .normalise _ _
  | .next _ _ | .durLookup _ | .mutedFallback | .songEmptyPause => true
  | _ => false

/-- The sub-steps of the video tick (R110, R177). -/
def isVideoTask : Task → Bool
  | .op i => isVideo i
  | .setRow _ | .frameEnd | .videoEnd => true
  | _ => false

/-- The sub-steps of the audio tick (R143, R147, R148, R178). -/
def isAudioTask : Task → Bool
  | .op i => isAudio i
  | .storeCursor | .clearCursor | .returnFallback | .audioEnd => true
  | _ => false

/-- `s` with the registers only audio has, and the results its operations return, taken from `u` (R181). -/
def withAudioOf (s u : State) : State :=
  { s with
    audioDl := u.audioDl, muted := u.muted, seqPos := u.seqPos, noteIdx := u.noteIdx
    retMeas := u.retMeas, retFound := u.retFound, retNext := u.retNext, retDur := u.retDur }

/-- `s` with the registers only video has taken from `u` (R181). -/
def withVideoOf (s u : State) : State :=
  { s with
    frameIdx := u.frameIdx, videoDl := u.videoDl, row := u.row, rp := u.rp, rem := u.rem, x := u.x
    curP := u.curP, curL := u.curL, line := u.line, pal := u.pal }

/-! ### Silence -/

/-- A sub-step that can lead to a non-zero voice write without passing through UNMUTE or an audio update's own test
of `MUTED`. -/
def loud : Task → Bool
  | .op (.sndSet _ f) => f ≠ 0
  | .op (.note _ _ _ _) => true
  | .op .advance => true
  | .word _ _ => true
  | _ => false

/-- A sub-step that may mute. -/
def mayMute : Task → Bool
  | .op .mute => true
  | .op .iterate => true
  | .request => true
  | _ => false

/-- Behind a sub-step that may mute stands no loud one. -/
def quietBehindMute : List Task → Bool
  | [] => true
  | t :: ts => (!mayMute t || ts.all fun u => !loud u) && quietBehindMute ts

/-- While MUTED nothing loud is to run (R181, law d). -/
abbrev silenceOk (s : State) : Prop :=
  (s.muted = true → (s.todo.all fun t => !loud t) = true) ∧ quietBehindMute s.todo = true

end Sys2Proof.Safety
end

