-- ==== Sys2Proof/Certificates/Slice0/Obligations.lean ====
section
/-! DEFINITION. The statements for the provers. A run of `n` steps is `Host.Core.run Sys2Proof.core n`.

Every statement speaks of the model's State and so uses its forms: the parameters as a field, illegal ones being refused
by INIT alone (logs 1 and 2), the pins taken once a step (log 7), the trace (log 19) and steps without a cycle count
(log 25). A docstring names the log entries its statement rests on beyond these. -/

open Sys2Proof Sys2Proof.Machine Sys2Proof.Safety

/-! ### Encodings (30_encoding.md) -/

/-- Decoding the word of a well-formed row gives the row back, with every operand at every value. -/
def Obligations.DecodeOfEncode : Prop :=
  ∀ (i : Instr) (c : Channel) (w : Nat), i.wellFormed = true → encode i = some (c, w) → decode c w = .ok i

/-- Encoding what a word decodes to gives the word back, less the bits R95 lists as ignored. At the display and re-arm
ports this rests on what the model decodes there (log 17): payload bits without a field and a re-arm of 0 are no row,
and DISP_RESERVED, left out, is one with any payload. -/
def Obligations.EncodeOfDecode : Prop :=
  ∀ (c : Channel) (w : Nat) (i : Instr), decode c w = .ok i → i ≠ .dispReserved →
    encode i = some (c, match c with | .pal => w % 2 ^ 24 | .mdir => w % 2 ^ 40 | _ => w)

/-- No ROM encoding is illegal (R82, R95), and a run word is its index and its length: `P = w[15:12]`, `L = w[11:0]`
(R81). -/
def Obligations.EveryRomWordDecodes : Prop :=
  (∀ (c : Channel) (w : Nat), c ≠ .disp → c ≠ .snd → c ≠ .rearm → w < 2 ^ c.width →
    ∃ i, decode c w = .ok i ∧ i.wellFormed = true) ∧
  (∀ w : Nat, w < 2 ^ 16 → ∃ (p : BitVec 4) (l : BitVec 12),
    decode .run w = .ok (.run p l) ∧ p.toNat = w / 2 ^ 12 ∧ l.toNat = w % 2 ^ 12) ∧
  (∀ lo hi : Byte, decodeBytes .run [lo, hi] = decode .run (lo.toNat + 256 * hi.toNat)) ∧
  decodeBytes .run [0x50, 0x30] = .ok (.run 3 80)

/-- Words written out in the spec decode to what it says they are (V-ENC, V-PRT). -/
def Obligations.SpecWordsDecode : Prop :=
  decodeBytes .run [0x50, 0x30] = .ok (.run 3 80) ∧
    decodeBytes .pal [0x56, 0x34, 0x12, 0xFF] = .ok (.pal 0x12 0x34 0x56) ∧
    decodeBytes .fdir [0x00, 0x01, 0x00, 0x00, 0x05, 0x00, 0x00, 0x00] = .ok (.fdir 0x100 5) ∧
    decodeBytes .mdir [0x40, 0x02, 0x00, 0x00, 0x03, 0xAA, 0xBB, 0xCC] = .ok (.mdir 0x240 3) ∧
    decodeBytes .note [0x28, 0x32, 0x00, 0x02] = .ok (.note 40 50 0 2) ∧
    decodeBytes .dur [0x10, 0x27] = .ok (.dur 10000) ∧
    decodeDisp 0 0x0003000700020000 = .ok (.dispSetwin 0 2 7 3) ∧
    decodeDisp 2 0x123456 = .ok (.dispPixel 0x12 0x34 0x56) ∧ decodeSnd 2 0x80 = .ok (.sndSet 2 0x80)

/-! ### The step and reset -/

/-- A word at the sequencer that decodes to `i` is run as `i`: the step takes the pins, ends the one-step strobes and
takes the word off the agenda. How a word comes to stand at the sequencer is the model's choice (log 11). The pins
taken at each step (log 7) and the strobes' length (logs 12 and 22) are the model's too. -/
def Obligations.StepRunsDecodedWord : Prop :=
  ∀ (s : State) (nbits w : Nat) (i : Instr) (rest : List Task),
    s.nextPins.rst = false → s.todo = .word nbits w :: rest → decodeTableWord nbits w = some i →
    step s = exec i { s with
      pins := s.nextPins, stimulus := s.stimulus.tail, tick := s.tick + 1, rearm := false, romReq := false,
      todo := rest }

/-- A row on the agenda is run by the step; with nothing on it the step begins INIT in phase INIT and ITERATE in every
other phase (R29, R172). The agenda is the model's form of R29's sub-steps (log 9). What a step does first is too: the
pins (log 7) and the strobes' end (logs 12 and 22). -/
def Obligations.StepRunsAgenda : Prop :=
  ∀ s : State, s.nextPins.rst = false →
    (∀ (i : Instr) (rest : List Task), s.todo = .op i :: rest → step s = exec i { s.begin with todo := rest }) ∧
    (s.todo = [] → s.phase = .init → step s = exec .init s.begin) ∧
    (s.todo = [] → s.phase ≠ .init → step s = exec .iterate s.begin)

/-- `withFetchWord` makes the very next step run the instruction of the word. The placing is the model's (log 11). The
pins taken at each step (log 7) and the strobes' length (logs 12 and 22) are the model's too. -/
def Obligations.FetchWordRunsNext : Prop :=
  ∀ (s : State) (nbits w : Nat) (i : Instr), decodeTableWord nbits w = some i →
    step (s.withFetchWord nbits w) = exec i { s with
      pins := acceptingPins 0, tick := s.tick + 1, rearm := false, romReq := false }

/-- The reset values that R231 gives, in the state after reset and under every parameter assignment. -/
def Obligations.ResetValues : Prop :=
  ∀ s : State, (s = State.reset ∨ ∃ c, s = State.resetWith c) →
    s.phase = .init ∧ s.frameIdx = 0 ∧ s.muted = false ∧ s.seqPos = 0 ∧ s.noteIdx = 0 ∧ s.status = 0x00 ∧
      s.dispValid = false ∧ s.sndValid = false ∧ s.rearm = false ∧ s.romReq = false

/-- `rst = 1` at any step abandons the operation in progress, makes the outputs idle, issues no event and leaves the
block at INIT with the reset values; the ROM and the parameters stay (R230, R235). What else stays is the model's
choice (log 20). That the operation abandoned is the agenda is log 9. -/
def Obligations.ResetAbandonsOperation : Prop :=
  ∀ s : State, s.nextPins.rst = true →
    ∃ t, step s = .next t ∧ t.phase = .init ∧ t.frameIdx = 0 ∧ t.muted = false ∧ t.seqPos = 0 ∧ t.noteIdx = 0 ∧
      t.status = 0x00 ∧ t.dispValid = false ∧ t.sndValid = false ∧ t.rearm = false ∧ t.romReq = false ∧
      t.todo = [] ∧ t.trace = s.trace ∧ t.rom = s.rom ∧ t.cfg = s.cfg

/-! ### ROM reads (20_memory.md) -/

/-- A read returns the ROM's bytes wherever they exist, and otherwise flags ROM_RANGE, draws one value for each byte
that does not exist, and goes on (R52, R53). The draw counter is the model's (log 6). -/
def Obligations.MemReadBytesAndRange : Prop :=
  ∀ (s : State) (a n : Nat),
    (∀ k, k < n → (a + k) % 2 ^ 32 < s.cfg.romSize →
      (s.memRead a n).1 / 2 ^ (8 * k) % 2 ^ 8 = (Memory.read s.rom ((a + k) % 2 ^ 32)).toNat) ∧
    (s.memRead a n).1 < 2 ^ (8 * n) ∧
    (s.memRead a n).2 = { s with
      status := if inRom s a n = true then s.status else s.status ||| 0x40#8
      draws := s.draws + ((List.range n).filter fun k => s.cfg.romSize ≤ (a + k) % 2 ^ 32).length }

/-- No step writes the ROM or a parameter: every byte of memory reads as before (R34, R51). That nobody else writes
the ROM is log 23. Parameters that are a field of the state are log 1. -/
def Obligations.RomAndParametersConstant : Prop :=
  ∀ s s' : State, step s = .next s' →
    s'.cfg = s.cfg ∧ s'.rom = s.rom ∧ ∀ a, Memory.read s'.rom a = Memory.read s.rom a

/-- An operation that reads the ROM waits while it is not acknowledged: it stays next to run, the request is out, and
nothing else but the free-value counter changes (R206). The wait and the free address are the model's (logs 8 and 12).
Operands outside their rules' ranges, and ADVANCE while MUTED, wait as the others by the model's choice (log 21). That
STATUS and the other registers show none of the operation's effects while it waits is the model's choice (log 28). -/
def Obligations.RomReadWaitsForAck : Prop :=
  ∀ (s : State) (i : Instr), s.cfg.legal = true → s.pins.romAck = false →
    (i = .init ∨ (∃ f, i = .decodeFrame f) ∨ (i = .decodeRow ∧ s.rem ≠ 0) ∨ i = .advance ∨ (∃ p, i = .meas p) ∨
      (∃ p j, i = .normalise p j) ∨ (∃ p j, i = .next p j) ∨ (∃ d, i = .durLookup d ∧ d.toNat < s.cfg.nd) ∨
      (∃ m, i = .seq m ∧ m.toNat < s.cfg.m)) →
    exec i s = .next { s with
      todo := .op i :: s.todo, romReq := true, romAddr := Config.freeRomAddr s.draws, draws := s.draws + 1 }

/-! ### Ports (30_encoding.md, 10_state.md) -/

/-- An accepted display transaction is one event with the codes of R89 to R92, and the port is idle again. That the
data lines hold their value afterwards is the model's choice (log 18). A window outside R90's range is sent as it
stands by the model's choice (log 21). That disp_valid is 0 after an acceptance is the model's choice (log 27). -/
def Obligations.DisplayTransactionAccepted : Prop :=
  ∀ s : State, s.pins.dispReady = true →
    (∀ x0 y0 x1 y1 : BitVec 16, exec (.dispSetwin x0 y0 x1 y1) s = .next { s with
      dispValid := false, dispCmd := 0b00#2, dispData := y1 ++ x1 ++ y0 ++ x0,
      trace := s.trace ++ [.disp 0b00#2 (y1 ++ x1 ++ y0 ++ x0)] }) ∧
    exec .dispBegin s = .next { s with
      dispValid := false, dispCmd := 0b01#2, dispData := 0, trace := s.trace ++ [.disp 0b01#2 0] } ∧
    (∀ r g b : BitVec 8, exec (.dispPixel r g b) s = .next { s with
      dispValid := false, dispCmd := 0b10#2, dispData := (r ++ g ++ b).setWidth 64,
      trace := s.trace ++ [.disp 0b10#2 ((r ++ g ++ b).setWidth 64)] })

/-- A display transaction not accepted stays offered, unchanged and next to run, and there is no event (R38, R206).
That a wait is a next state with the transaction first on the agenda is the model's choice (logs 8 and 9): U8 calls a
port that never accepts stuck. A window outside R90's range is offered as it stands by the model's choice (log 21). -/
def Obligations.DisplayTransactionWaits : Prop :=
  ∀ s : State, s.pins.dispReady = false →
    (∀ x0 y0 x1 y1 : BitVec 16, exec (.dispSetwin x0 y0 x1 y1) s = .next { s with
      dispValid := true, dispCmd := 0b00#2, dispData := y1 ++ x1 ++ y0 ++ x0,
      todo := .op (.dispSetwin x0 y0 x1 y1) :: s.todo }) ∧
    exec .dispBegin s = .next { s with
      dispValid := true, dispCmd := 0b01#2, dispData := 0, todo := .op .dispBegin :: s.todo } ∧
    (∀ r g b : BitVec 8, exec (.dispPixel r g b) s = .next { s with
      dispValid := true, dispCmd := 0b10#2, dispData := (r ++ g ++ b).setWidth 64,
      todo := .op (.dispPixel r g b) :: s.todo })

/-- A sound transaction: voices 0 to 2 are one event when accepted, and wait, offered and unchanged, when not (R39,
R93). That the data lines hold their value afterwards is the model's choice (log 18), and so is a wait that is a next
state with the write first on the agenda (logs 8 and 9). That snd_valid is 0 after an acceptance is the model's choice
(log 27). -/
def Obligations.SoundTransaction : Prop :=
  ∀ (s : State) (v : BitVec 2) (f : BitVec 8), v.toNat < 3 →
    (s.pins.sndReady = true → exec (.sndSet v f) s = .next { s with
      sndValid := false, sndVoice := v, sndFreq := f, trace := s.trace ++ [.snd v f] }) ∧
    (s.pins.sndReady = false → exec (.sndSet v f) s = .next { s with
      sndValid := true, sndVoice := v, sndFreq := f, todo := .op (.sndSet v f) :: s.todo })

/-- The codes the block never emits stop it (R89, R93). That they stop with a fault is the model's choice (log 16). -/
def Obligations.ReservedCodesStop : Prop :=
  ∀ s : State, exec .dispReserved s = .fault .reservedDisplayCommand ∧
    ∀ f : BitVec 8, exec (.sndSet 3 f) s = .fault .reservedVoice

/-- A transaction once offered is neither changed nor withdrawn: a step without reset completes exactly it when the
port is ready, and otherwise leaves the block as it was, with no event (R38, R39, R206). A wait is a step of the model
(log 8). That valid is 0 after an acceptance is the model's choice (log 27). The agenda (log 9), the pins taken at
each step (log 7) and the other strobes' length (logs 12 and 22) are the model's too. -/
def Obligations.OfferedTransactionHeld : Prop :=
  ∀ s : State, offersOk s → s.nextPins.rst = false →
    (s.dispValid = true → ∃ t, step s = .next t ∧
      (s.nextPins.dispReady = true → t.dispValid = false ∧ t.trace = s.trace ++ [.disp s.dispCmd s.dispData] ∧
        t.todo = s.todo.tail) ∧
      (s.nextPins.dispReady = false → t = { s with
        pins := s.nextPins, stimulus := s.stimulus.tail, tick := s.tick + 1, rearm := false, romReq := false })) ∧
    (s.sndValid = true → ∃ t, step s = .next t ∧
      (s.nextPins.sndReady = true → t.sndValid = false ∧ t.trace = s.trace ++ [.snd s.sndVoice s.sndFreq] ∧
        t.todo = s.todo.tail) ∧
      (s.nextPins.sndReady = false → t = { s with
        pins := s.nextPins, stimulus := s.stimulus.tail, tick := s.tick + 1, rearm := false, romReq := false }))

/-- What a port holds offered is what the next sub-step offers: every step keeps it. The agenda and a wait's place on
it are the model's (logs 8 and 9). -/
def Obligations.OffersMatchAgenda : Prop :=
  ∀ s s' : State, offersOk s → step s = .next s' → offersOk s'

/-- Every step adds to the trace only codes the block may emit, and `rearm` is 1 after exactly the steps that issue
the strobe (R89, R93, R94, R95). The strobe's length of one step is the model's choice (log 22). A transaction with
operands outside its rule's range counts too, by the model's choice (log 21). -/
def Obligations.TraceGrowsByLegalEvents : Prop :=
  ∀ s s' : State, step s = .next s' →
    ∃ evs, s'.trace = s.trace ++ evs ∧ (∀ e ∈ evs, eventLegal e = true) ∧ (s'.rearm = true ↔ Event.rearm ∈ evs)

/-- IN_REARM raises the strobe and is one event; nothing else changes (R94). The strobe's length of one step is the
model's choice (log 22). -/
def Obligations.RearmStrobes : Prop :=
  ∀ s : State, exec .inRearm s = .next { s with rearm := true, trace := s.trace ++ [.rearm] }

/-! ### Video (40_video.md) -/

/-- EXPAND_RUN and the RUN word: the run's pixels and nothing else, inside the line, with ROW_OVF exactly when it does
not fit (R112, R113, R114). A RUN word run as a row of its own (log 11) and states with X at or past WS (log 21) are
the model's choices. At WS = 65536 it rests on X having no width (log 13), as X is written here without one. -/
def Obligations.RunExpandsInsideLine : Prop :=
  ∀ s : State, (∃ t, exec .expandRun s = .next t ∧ expandsTo s t) ∧
    ∀ (p : BitVec 4) (l : BitVec 12), ∃ t, exec (.run p l) s = .next t ∧ expandsTo { s with curP := p, curL := l } t

/-- DECODE_ROW ends on any data, inside the line: it writes only the decode registers, LINE and flags; unless the row
is full it has read every word and flagged FRAME_SHORT, and the entries from `X*S` on keep their values (R112, R115).
One acknowledge answering all its reads (log 12) is the model's. At WS = 65536 the statement rests on X having no
width (log 13). -/
def Obligations.DecodeRowBounded : Prop :=
  ∀ s : State, s.pins.romAck = true →
    ∃ t, exec .decodeRow s = .next t ∧ t.line.length = s.line.length ∧ t.x ≤ s.cfg.ws ∧
      t.rem.toNat ≤ s.rem.toNat ∧
      (∀ j, t.x * s.cfg.s ≤ j → t.line[j]? = s.line[j]?) ∧
      (t.x < s.cfg.ws → t.rem = 0 ∧ t.flagged .frameShort = true) ∧
      t = { s with
        x := t.x, rp := t.rp, rem := t.rem, curP := t.curP, curL := t.curL, line := t.line, status := t.status,
        draws := t.draws }

/-- A well-formed row decodes to its runs' colours, consumes exactly its words and sets no flag (R120). One
acknowledge answering all its reads (log 12) is the model's. At WS = 65536 the statement rests on X having no width
(log 13). -/
def Obligations.WellFormedRowDecodes : Prop :=
  ∀ (s : State) (runs : List (BitVec 4 × BitVec 12)),
    s.cfg.legal = true → s.line.length = s.cfg.w → s.pins.romAck = true → rowWellFormed s.cfg runs = true →
    wordsAt s s.rp.toNat runs = true → runs.length ≤ s.rem.toNat →
    ∃ t, exec .decodeRow s = .next t ∧ t = { s with
      line := lineOf s runs, x := s.cfg.ws, rp := s.rp + BitVec.ofNat 32 (2 * runs.length),
      rem := s.rem - BitVec.ofNat 32 runs.length, curP := t.curP, curL := t.curL }

/-- With no run word left a row that needs pixels is left as it was, and FRAME_SHORT is flagged (R115). That it needs
no answer of the ROM is log 12. -/
def Obligations.ExhaustedRowKeepsLine : Prop :=
  ∀ s : State, s.rem = 0 → 0 < s.cfg.ws →
    exec .decodeRow s = .next { s with x := 0, status := s.status ||| 0x02#8 }

/-- DECODE_FRAME reads its directory entry and schedules its rows in order; the FDIR word sets the same registers, and
the sub-step `ROW <- r` writes ROW and nothing else (R84, R110). The agenda is the model's (log 9). One acknowledge
answering all its reads (log 12) is the model's. An FDIR word run as a row of its own is log 11, and the strobes' end
at a step logs 12 and 22. -/
def Obligations.DecodeFrameStarts : Prop :=
  ∀ (s : State) (f : BitVec 8),
    (∀ (r : BitVec 16) (rest : List Task), s.nextPins.rst = false → s.todo = .setRow r :: rest →
      step s = .next { s.begin with todo := rest, row := r }) ∧
    (∀ a n : BitVec 32, exec (.fdir a n) s = .next { s with rp := a, rem := n }) ∧
    (s.cfg.legal = true → f.toNat < s.cfg.nf → s.pins.romAck = true →
      exec (.decodeFrame f) s = .next { s with
        rp := BitVec.ofNat 32 (romVal s (s.cfg.fdirBase + 8 * f.toNat) 4)
        rem := BitVec.ofNat 32 (romVal s (s.cfg.fdirBase + 8 * f.toNat + 4) 4)
        todo := frameTasks s.cfg ++ s.todo })

/-- Run words left after the last row are not read, and FRAME_LONG is flagged (R116). The sub-step `frameEnd` is the
model's form of DECODE_FRAME's last statement (log 9). So is the strobes' end at a step (logs 12 and 22). -/
def Obligations.LeftoverWordsFlagged : Prop :=
  ∀ (s : State) (rest : List Task), s.nextPins.rst = false → s.todo = .frameEnd :: rest →
    step s = .next { s.begin with
      todo := rest, status := if s.rem = 0 then s.status else s.status ||| 0x04#8 }

/-- RENDER_LINE schedules its transactions, and with a display that accepts them it emits exactly the window, the
start and the line `S` times, writing no register (R117). The agenda (log 9) and the one reading of LINE when the
operation begins (log 24) are the model's. A row at or past RS, which R117 gives no operation and whose window numbers
are cut to 16 bits, runs by the model's choice (log 21). The run's pins (log 7) and the strobes' end (logs 12 and 22)
are the model's too. -/
def Obligations.RenderLineEmitsLine : Prop :=
  ∀ (s : State) (r : BitVec 16) (rest : List Task),
    exec (.renderLine r) s = .next { s with todo := (renderOps s.cfg s.line r.toNat).map .op ++ s.todo } ∧
    (s.line.length = s.cfg.w → s.todo = .op (.renderLine r) :: rest →
      accepts s (3 + s.cfg.s * s.cfg.w) = true →
      ∃ t, Host.Core.run Sys2Proof.core (3 + s.cfg.s * s.cfg.w) s = .next t ∧ t = { s with
        todo := rest, trace := s.trace ++ renderEvents s.cfg r.toNat s.line, rearm := false, romReq := false,
        dispValid := t.dispValid, dispCmd := t.dispCmd, dispData := t.dispData, pins := t.pins,
        stimulus := t.stimulus, tick := t.tick })

/-- One DECODE_FRAME emits, whatever the data, `RS` lines of `W` pixels in increasing row order, each under its window
and `S` times: `RS * (2 + S*W)` display transactions, `W*H` of them pixels (R110, R119). The agenda and its number of
steps are the model's (log 9). A frame index at or past NF, outside R110's operands, runs by the model's choice (log
21). One acknowledge answering all reads of DECODE_FRAME and of each DECODE_ROW (log 12), the one reading of LINE for
a line (log 24) and the run's pins (log 7) are the model's. -/
def Obligations.FrameOutputFixed : Prop :=
  ∀ (s : State) (f : BitVec 8) (rest : List Task),
    s.cfg.legal = true → s.line.length = s.cfg.w → s.todo = .op (.decodeFrame f) :: rest →
    accepts s (2 + s.cfg.rs * (5 + s.cfg.s * s.cfg.w)) = true →
    ∃ (t : State) (lines : List (List Colour)),
      Host.Core.run Sys2Proof.core (2 + s.cfg.rs * (5 + s.cfg.s * s.cfg.w)) s = .next t ∧ t.todo = rest ∧
      lines.length = s.cfg.rs ∧ (∀ l ∈ lines, l.length = s.cfg.w) ∧
      t.trace = s.trace ++ (lines.mapIdx fun r l => renderEvents s.cfg r l).flatten ∧
      t.trace.length = s.trace.length + s.cfg.rs * (2 + s.cfg.s * s.cfg.w) ∧
      ((t.trace.drop s.trace.length).filter isPixel).length = s.cfg.w * s.cfg.h ∧
      t.audioDl = s.audioDl ∧ t.muted = s.muted ∧ t.seqPos = s.seqPos ∧ t.noteIdx = s.noteIdx ∧
      t.videoDl = s.videoDl ∧ t.frameIdx = s.frameIdx ∧ t.pal = s.pal

/-! ### Audio (41_audio.md) -/

/-- MEAS returns the measure at a sequence position, the empty one with SEQ_BAD for a bad entry, and changes nothing
else (R141). The pair stands in the model's result field (log 10). One acknowledge answering all its reads (log 12) is
the model's. -/
def Obligations.MeasReturnsMeasure : Prop :=
  ∀ (s : State) (p : BitVec 8), s.cfg.legal = true → p.toNat < s.cfg.k → s.pins.romAck = true →
    exec (.meas p) s = .next { s with
      retMeas := measOf s p.toNat
      status := if s.cfg.m ≤ seqOf s p.toNat then s.status ||| 0x10#8 else s.status }

/-- The SEQ, MDIR, DUR and NOTE words: a measure index is looked up as MEAS does, a directory entry is MEAS's result,
a duration entry is the duration, and a note record is its three voice writes and its duration look-up (R85 to R88).
The result fields and the agenda are the model's (logs 9 and 10). One acknowledge answering all its reads (log 12) is
the model's. So are these words run as rows of their own (log 11). -/
def Obligations.AudioWordsRun : Prop :=
  ∀ s : State,
    (∀ m : BitVec 8, s.cfg.m ≤ m.toNat →
      exec (.seq m) s = .next { s with retMeas := ⟨0, 0⟩, status := s.status ||| 0x10#8 }) ∧
    (∀ m : BitVec 8, m.toNat < s.cfg.m → s.cfg.legal = true → s.pins.romAck = true →
      exec (.seq m) s = .next { s with retMeas :=
        ⟨BitVec.ofNat 32 (romVal s (s.cfg.mdirBase + 8 * m.toNat) 4),
          BitVec.ofNat 8 (romVal s (s.cfg.mdirBase + 8 * m.toNat + 4) 1)⟩ }) ∧
    (∀ (a : BitVec 32) (n : BitVec 8), exec (.mdir a n) s = .next { s with retMeas := ⟨a, n⟩ }) ∧
    (∀ t : BitVec 16, exec (.dur t) s = .next { s with retDur := t.toNat }) ∧
    (∀ f0 f1 f2 dc : BitVec 8, exec (.note f0 f1 f2 dc) s = .next { s with
      todo := [.op (.sndSet 0 f0), .op (.sndSet 1 f1), .op (.sndSet 2 f2), .op (.durLookup dc)] ++ s.todo })

/-- NORMALISE returns the first playable note at or after the cursor, in at most one pass over the sequence (R142).
The cursor stands in the model's result field (log 10). One acknowledge answering all its reads (log 12) is the
model's. -/
def Obligations.NormaliseFindsFirstPlayable : Prop :=
  ∀ (s : State) (pos idx : BitVec 8), s.cfg.legal = true → pos.toNat < s.cfg.k → s.pins.romAck = true →
    ∃ t, exec (.normalise pos idx) s = .next t ∧ t.retFound = firstPlayable s pos.toNat idx.toNat ∧
      t = { s with retFound := t.retFound, retMeas := t.retMeas, status := t.status } ∧
      (t.status = s.status ∨ t.status = s.status ||| 0x10#8)

/-- NEXT returns the note after the one played, skipping empty measures up to the wrap (R144). The cursor stands in
the model's result field (log 10), and one acknowledge answering all its reads (log 12) is the model's. -/
def Obligations.NextReturnsCursorAfter : Prop :=
  ∀ (s : State) (p i : BitVec 8), s.cfg.legal = true → p.toNat < s.cfg.k → i.toNat < cntOf s p.toNat →
    s.pins.romAck = true →
    ∃ t, exec (.next p i) s = .next t ∧ t.retNext = cursorAfter s p.toNat i.toNat ∧
      t = { s with retNext := t.retNext, retMeas := t.retMeas, status := t.status } ∧
      (t.status = s.status ∨ t.status = s.status ||| 0x10#8)

/-- DUR_LOOKUP maps a code to its entry, and a code `>= ND` to 0 with DUR_BAD (R145). The duration stands in the
model's result field (log 10). One acknowledge answering all its reads (log 12) is the model's. -/
def Obligations.DurLookupBounded : Prop :=
  ∀ (s : State) (c : BitVec 8),
    (s.cfg.nd ≤ c.toNat → exec (.durLookup c) s = .next { s with retDur := 0, status := s.status ||| 0x08#8 }) ∧
    (c.toNat < s.cfg.nd → s.cfg.legal = true → s.pins.romAck = true →
      exec (.durLookup c) s = .next { s with retDur := romVal s (s.cfg.durBase + 2 * c.toNat) 2 })

/-- ADVANCE's first sub-step: at the first playable note it schedules the note's three voices, its duration and the
next cursor; a record past the ROM is played with free bytes and flagged; with no playable note it is SONG_EMPTY_PAUSE
(R53, R143, R148). The agenda (log 9), the result field (log 10) and ADVANCE while MUTED (log 21) are the model's. One
acknowledge answering all its reads (log 12) is the model's. -/
def Obligations.AdvanceSchedulesNote : Prop :=
  ∀ s : State, s.cfg.legal = true → s.seqPos.toNat < s.cfg.k → s.pins.romAck = true →
    ∃ t, exec .advance s = .next t ∧
      t = { s with
        todo := t.todo, retFound := t.retFound, retMeas := t.retMeas, status := t.status, draws := t.draws } ∧
      match firstPlayable s s.seqPos.toNat s.noteIdx.toNat with
      | none => t.flagged .songEmpty = true ∧ t.todo = voiceTasks 0 0 0 ++ [.clearCursor, .returnFallback] ++ s.todo
      | some c => t.retFound = some c ∧
          (inRom s (noteAddr (measOf s c.pos.toNat).addr c.idx.toNat) 4 = true →
            t.todo = playTasks (noteOf s c.pos.toNat c.idx.toNat) c ++ s.todo ∧ t.draws = s.draws) ∧
          (inRom s (noteAddr (measOf s c.pos.toNat).addr c.idx.toNat) 4 = false →
            t.flagged .romRange = true ∧ ∃ rec, t.todo = playTasks rec c ++ s.todo)

/-- ADVANCE run to its end with ports that accept: the note's three voice writes in order, its duration returned, and
the cursor moved on (R143). The agenda (log 9) and the result fields (log 10) are the model's. ADVANCE while MUTED,
outside R143's precondition, runs by the model's choice (log 21). One acknowledge answering all reads of ADVANCE, of
DUR_LOOKUP and of NEXT (log 12), the strobes' end (log 22) and the run's pins (log 7) are the model's. -/
def Obligations.AdvancePlaysNote : Prop :=
  ∀ (s : State) (c : Cursor) (rest : List Task),
    s.cfg.legal = true → s.seqPos.toNat < s.cfg.k → s.todo = .op .advance :: rest → accepts s 7 = true →
    firstPlayable s s.seqPos.toNat s.noteIdx.toNat = some c →
    inRom s (noteAddr (measOf s c.pos.toNat).addr c.idx.toNat) 4 = true →
    ∃ t, Host.Core.run Sys2Proof.core 7 s = .next t ∧
      t.trace = s.trace ++ [.snd 0 ((noteOf s c.pos.toNat c.idx.toNat).extractLsb' 0 8),
        .snd 1 ((noteOf s c.pos.toNat c.idx.toNat).extractLsb' 8 8),
        .snd 2 ((noteOf s c.pos.toNat c.idx.toNat).extractLsb' 16 8)] ∧
      t.retDur = durOf s ((noteOf s c.pos.toNat c.idx.toNat).extractLsb' 24 8).toNat ∧
      (⟨t.seqPos, t.noteIdx⟩ : Cursor) = cursorAfter s c.pos.toNat c.idx.toNat ∧
      t = { s with
        seqPos := t.seqPos, noteIdx := t.noteIdx, trace := t.trace, todo := rest, retDur := t.retDur,
        retFound := t.retFound, retMeas := t.retMeas, retNext := t.retNext, status := t.status,
        sndValid := t.sndValid, sndVoice := t.sndVoice, sndFreq := t.sndFreq, rearm := false, romReq := false,
        pins := t.pins, stimulus := t.stimulus, tick := t.tick }

/-- MUTED_FALLBACK and SONG_EMPTY_PAUSE schedule, and with a port that accepts them emit, three zero writes, and
return FALLBACK_MS; only the second flags SONG_EMPTY and resets the cursor (R147, R148). The sub-steps (log 9), the
result field (log 10) and a duration without a width (log 14) are the model's. MUTED_FALLBACK while PLAYING and
SONG_EMPTY_PAUSE of a song with notes, outside their preconditions, run by the model's choice (log 21). The run's pins
are log 7. -/
def Obligations.SilencesReturnFallback : Prop :=
  ∀ (s : State) (rest : List Task),
    exec .mutedFallback s = .next { s with
      todo := voiceTasks 0 0 0 ++ [.returnFallback] ++ s.todo } ∧
    exec .songEmptyPause s = .next { s with
      status := s.status ||| 0x20#8, todo := voiceTasks 0 0 0 ++ [.clearCursor, .returnFallback] ++ s.todo } ∧
    (s.todo = .op .mutedFallback :: rest → accepts s 5 = true →
      ∃ t, Host.Core.run Sys2Proof.core 5 s = .next t ∧ t.retDur = s.cfg.fallbackMs ∧ t.todo = rest ∧
        t.trace = s.trace ++ [.snd 0 0, .snd 1 0, .snd 2 0] ∧ t.seqPos = s.seqPos ∧ t.noteIdx = s.noteIdx ∧
        t.status = s.status ∧ t.muted = s.muted ∧ t.audioDl = s.audioDl) ∧
    (s.todo = .op .songEmptyPause :: rest → accepts s 6 = true →
      ∃ t, Host.Core.run Sys2Proof.core 6 s = .next t ∧ t.retDur = s.cfg.fallbackMs ∧ t.todo = rest ∧
        t.trace = s.trace ++ [.snd 0 0, .snd 1 0, .snd 2 0] ∧ t.seqPos = 0 ∧ t.noteIdx = 0 ∧
        t.status = s.status ||| 0x20#8 ∧ t.muted = s.muted ∧ t.audioDl = s.audioDl)

/-- The full-song cycle, note by note: from `(0, 0)` the first note played is the first of the song, after each note
the cursor leads to the note that follows it, and after the last the cursor is `(0, 0)` (R149, law a). The cursors
stand in the model's result fields (log 10). One acknowledge answering all its reads (log 12) is the model's. -/
def Obligations.SongPlaysInOrder : Prop :=
  ∀ s : State, s.cfg.legal = true → s.pins.romAck = true →
    (∀ p i, (songOrder s)[0]? = some (p, i) →
      ∃ t, exec (.normalise 0 0) s = .next t ∧ t.retFound = some (cursorOf (p, i))) ∧
    (∀ n p i, (songOrder s)[n]? = some (p, i) →
      ∃ t, exec (.next (BitVec.ofNat 8 p) (BitVec.ofNat 8 i)) s = .next t ∧
        match (songOrder s)[n + 1]? with
        | none => t.retNext = ⟨0, 0⟩
        | some (q, j) => ∃ u, exec (.normalise t.retNext.pos t.retNext.idx) s = .next u ∧
            u.retFound = some (cursorOf (q, j)))

/-! ### Scheduler (42_scheduler.md) -/

/-- PASSED is 1 exactly when the deadline lies 0 to `2^(CLK_W-1) - 1` ms back, modulo the counter; at half the range
it is 0 (R170). The result stands in the model's result field (log 10). -/
def Obligations.PassedIsHalfRangeTest : Prop :=
  ∀ (s : State) (now dl : Nat), 1 ≤ s.cfg.clkW → now < 2 ^ s.cfg.clkW → dl < 2 ^ s.cfg.clkW →
    ∃ t, exec (.passed now dl) s = .next t ∧ t = { s with retPassed := t.retPassed } ∧
      (t.retPassed = true ↔ ∃ d, d < 2 ^ (s.cfg.clkW - 1) ∧ now = (dl + d) % 2 ^ s.cfg.clkW) ∧
      (now = (dl + 2 ^ (s.cfg.clkW - 1)) % 2 ^ s.cfg.clkW → t.retPassed = false)

/-- INIT loads the palette, samples the clock once and sets both deadlines to the sample (R65, R232), the sample
keeping the clock's duty (R216). That one acknowledge answers all its reads is the model's (log 12). The record of the
last sample is the model's (log 15). So are the palette index (log 10) and PHASE after INIT (log 9). -/
def Obligations.InitSetsDeadlines : Prop :=
  ∀ s : State, s.cfg.legal = true → s.pins.romAck = true → s.clockKept = true →
    ∃ t, exec .init s = .next t ∧
      (∀ i : BitVec 4, t.palAt i = BitVec.ofNat 24 (romVal s (s.cfg.palBase + 4 * i.toNat) 4)) ∧
      t = { s with
        pal := t.pal, palIdx := 0, now := s.pins.msNow % 2 ^ s.cfg.clkW,
        lastSample := some (s.pins.msNow % 2 ^ s.cfg.clkW), videoDl := s.pins.msNow % 2 ^ s.cfg.clkW,
        audioDl := s.pins.msNow % 2 ^ s.cfg.clkW, phase := .poll,
        trace := s.trace ++ [.clock (s.pins.msNow % 2 ^ s.cfg.clkW)] }

/-- An illegal parameter assignment is refused before anything runs (R7). That INIT refuses it is the model's choice
(log 2). -/
def Obligations.IllegalParametersRefused : Prop :=
  ∀ s : State, s.cfg.legal = false → exec .init s = .refused .illegalParameters

/-- The PAL word writes one palette entry, its channels in place, and no other (R83). That the entry is the one INIT's
index names is the model's choice (log 10). A PAL word run as a row of its own is log 11. -/
def Obligations.PaletteWordWritesEntry : Prop :=
  ∀ (s : State) (r g b : BitVec 8), ∃ t, exec (.pal r g b) s = .next t ∧
    (∀ i : BitVec 4, i ≠ s.palIdx → t.palAt i = s.palAt i) ∧
    (t.palAt s.palIdx).extractLsb' 16 8 = r ∧ (t.palAt s.palIdx).extractLsb' 8 8 = g ∧
    (t.palAt s.palIdx).extractLsb' 0 8 = b ∧ t = { s with pal := t.pal, palIdx := s.palIdx + 1 }

/-- ITERATE schedules the five steps in order (R172), and POLL_INPUT takes one input sample and re-arms (R173). The
agenda and the request fields are the model's (logs 9 and 10), and so is that the sample and the re-arm fall in one
step (log 26). That rearm is 1 in the state after POLL_INPUT, and how long, is the model's (log 22). -/
def Obligations.IterationStarts : Prop :=
  ∀ s : State,
    exec .iterate s = .next { s with
      phase := .poll, todo := [.op .pollInput, .request, .op .videoTick, .op .audioTick] ++ s.todo } ∧
    exec .pollInput s = .next { s with
      phase := .req, mreq := !s.pins.muteN, ureq := !s.pins.unmuteN, rearm := true,
      trace := s.trace ++ [.input s.pins.muteN s.pins.unmuteN, .rearm] }

/-- An iteration with no request and neither deadline passed takes one input sample, one re-arm and two clock samples,
and changes nothing but NOW (R172), its samples keeping the clock's duty (R216). That it takes five steps is the
model's (log 9). The record of the last sample (log 15), the result fields (log 10) and the sample and re-arm in one
step (log 26) are the model's. The strobes' end (logs 12 and 22) and the run's pins (log 7) are too. -/
def Obligations.QuietIteration : Prop :=
  ∀ (s : State) (p1 p2 p3 p4 p5 : Pins) (rest : List Pins),
    s.todo = [] → s.phase = .poll → s.stimulus = p1 :: p2 :: p3 :: p4 :: p5 :: rest →
    p1.rst = false → p2.rst = false → p3.rst = false → p4.rst = false → p5.rst = false →
    p2.muteN = true → p2.unmuteN = true →
    (∀ t, s.lastSample = some t → clockDuty s.cfg t p4.msNow = true) →
    clockDuty s.cfg (p4.msNow % 2 ^ s.cfg.clkW) p5.msNow = true →
    passedTest s.cfg (p4.msNow % 2 ^ s.cfg.clkW) s.videoDl = false →
    passedTest s.cfg (p5.msNow % 2 ^ s.cfg.clkW) s.audioDl = false →
    Host.Core.run Sys2Proof.core 5 s = .next { s with
      trace := s.trace ++ [.input true true, .rearm, .clock (p4.msNow % 2 ^ s.cfg.clkW),
        .clock (p5.msNow % 2 ^ s.cfg.clkW)]
      now := p5.msNow % 2 ^ s.cfg.clkW, lastSample := some (p5.msNow % 2 ^ s.cfg.clkW)
      mreq := false, ureq := false, retPassed := false, rearm := false,
      romReq := false, pins := p5, stimulus := rest, tick := s.tick + 5 }

/-- A mute request runs MUTE whatever the unmute line says, an unmute request alone runs UNMUTE, and no request goes
on to the video tick (R172, R176). The agenda and the request fields are the model's (logs 9 and 10). So is what a
step does first: the pins (log 7) and the strobes' end (logs 12 and 22). -/
def Obligations.MuteBeatsUnmute : Prop :=
  ∀ (s : State) (rest : List Task), s.nextPins.rst = false → s.todo = .request :: rest →
    (s.mreq = true → step s = .next { s.begin with todo := .op .mute :: rest }) ∧
    (s.mreq = false → s.ureq = true → step s = .next { s.begin with todo := .op .unmute :: rest }) ∧
    (s.mreq = false → s.ureq = false → step s = .next { s.begin with todo := rest, phase := .video })

/-- MUTE: while MUTED it does nothing; while PLAYING it samples the clock, silences the three voices, discards the
cursor and sets the audio deadline to now plus the fallback (R174), its sample keeping the clock's duty (R216). The
agenda (log 9) and `PHASE := VIDEO` by MUTE and by its last sub-step (logs 9 and 21) are the model's. The record of
the last sample is the model's (log 15). So are the run's pins (log 7) and the strobes' end (logs 12 and 22). -/
def Obligations.MuteSilencesOnce : Prop :=
  ∀ (s : State) (rest : List Task),
    (s.muted = true → exec .mute s = .next { s with phase := .video }) ∧
    (s.muted = false → s.clockKept = true → exec .mute s = .next { s with
      muted := true, now := s.pins.msNow % 2 ^ s.cfg.clkW, lastSample := some (s.pins.msNow % 2 ^ s.cfg.clkW),
      trace := s.trace ++ [.clock (s.pins.msNow % 2 ^ s.cfg.clkW)],
      todo := voiceTasks 0 0 0 ++ [.clearCursor, .muteEnd] ++ s.todo }) ∧
    (s.muted = false → s.todo = .op .mute :: rest → accepts s 6 = true → s.begin.clockKept = true →
      ∃ t, Host.Core.run Sys2Proof.core 6 s = .next t ∧
        t.trace = s.trace ++ [.clock (s.nextPins.msNow % 2 ^ s.cfg.clkW), .snd 0 0, .snd 1 0, .snd 2 0] ∧
        t = { s with
          muted := true, now := s.nextPins.msNow % 2 ^ s.cfg.clkW,
          lastSample := some (s.nextPins.msNow % 2 ^ s.cfg.clkW), seqPos := 0, noteIdx := 0,
          audioDl := (s.nextPins.msNow % 2 ^ s.cfg.clkW + s.cfg.fallbackMs) % 2 ^ s.cfg.clkW, phase := .video,
          todo := rest, trace := t.trace, sndValid := t.sndValid, sndVoice := t.sndVoice, sndFreq := t.sndFreq,
          rearm := false, romReq := false, pins := t.pins, stimulus := t.stimulus, tick := t.tick })

/-- UNMUTE: while PLAYING it does nothing; while MUTED it restarts the song at `(0, 0)`, due now, with no sound write
(R175), its sample keeping the clock's duty (R216). `PHASE := VIDEO` by UNMUTE, also where it does nothing else, is
the model's (logs 9 and 21). The record of the last sample is the model's (log 15). -/
def Obligations.UnmuteRestartsSong : Prop :=
  ∀ s : State,
    (s.muted = false → exec .unmute s = .next { s with phase := .video }) ∧
    (s.muted = true → s.clockKept = true → exec .unmute s = .next { s with
      muted := false, seqPos := 0, noteIdx := 0, now := s.pins.msNow % 2 ^ s.cfg.clkW,
      lastSample := some (s.pins.msNow % 2 ^ s.cfg.clkW),
      audioDl := s.pins.msNow % 2 ^ s.cfg.clkW, phase := .video,
      trace := s.trace ++ [.clock (s.pins.msNow % 2 ^ s.cfg.clkW)] })

/-- VIDEO_TICK takes a fresh sample, which keeps the clock's duty (R216); if the deadline has passed it advances the
frame and schedules it, with the deadline after it; else it goes on (R177). The agenda and PHASE's moving on are the
model's (log 9). The record of the last sample (log 15) and the result field (log 10) are the model's. PHASE's moving
on when VIDEO_TICK is run on its own is log 21. -/
def Obligations.VideoTickAdvancesFrame : Prop :=
  ∀ s : State, s.clockKept = true →
    (passedTest s.cfg (s.pins.msNow % 2 ^ s.cfg.clkW) s.videoDl = false →
      exec .videoTick s = .next { s with
        now := s.pins.msNow % 2 ^ s.cfg.clkW, lastSample := some (s.pins.msNow % 2 ^ s.cfg.clkW),
        trace := s.trace ++ [.clock (s.pins.msNow % 2 ^ s.cfg.clkW)],
        retPassed := false, phase := .audio }) ∧
    (passedTest s.cfg (s.pins.msNow % 2 ^ s.cfg.clkW) s.videoDl = true →
      exec .videoTick s = .next { s with
        now := s.pins.msNow % 2 ^ s.cfg.clkW, lastSample := some (s.pins.msNow % 2 ^ s.cfg.clkW),
        trace := s.trace ++ [.clock (s.pins.msNow % 2 ^ s.cfg.clkW)],
        retPassed := true, frameIdx := BitVec.ofNat 8 ((s.frameIdx.toNat + 1) % s.cfg.nf),
        todo := [.op (.decodeFrame (BitVec.ofNat 8 ((s.frameIdx.toNat + 1) % s.cfg.nf))), .videoEnd] ++ s.todo })

/-- AUDIO_TICK takes a fresh sample, which keeps the clock's duty (R216); if the deadline has passed it schedules the
muted fallback or ADVANCE, with the deadline after it; else the iteration ends (R178). The agenda and PHASE's moving
on are the model's (log 9). The record of the last sample (log 15) and the result field (log 10) are the model's.
PHASE's moving on when AUDIO_TICK is run on its own is log 21. -/
def Obligations.AudioTickRunsUpdate : Prop :=
  ∀ s : State, s.clockKept = true →
    (passedTest s.cfg (s.pins.msNow % 2 ^ s.cfg.clkW) s.audioDl = false →
      exec .audioTick s = .next { s with
        now := s.pins.msNow % 2 ^ s.cfg.clkW, lastSample := some (s.pins.msNow % 2 ^ s.cfg.clkW),
        trace := s.trace ++ [.clock (s.pins.msNow % 2 ^ s.cfg.clkW)],
        retPassed := false, phase := .poll }) ∧
    (passedTest s.cfg (s.pins.msNow % 2 ^ s.cfg.clkW) s.audioDl = true →
      exec .audioTick s = .next { s with
        now := s.pins.msNow % 2 ^ s.cfg.clkW, lastSample := some (s.pins.msNow % 2 ^ s.cfg.clkW),
        trace := s.trace ++ [.clock (s.pins.msNow % 2 ^ s.cfg.clkW)],
        retPassed := true,
        todo := [.op (if s.muted then .mutedFallback else .advance), .audioEnd] ++ s.todo })

/-- A reached deadline advances by one period from its own old value, whatever NOW is (R171, R177, R178). PHASE's
moving on (log 9), the returned duration's place in a result field (log 10) and its not being cut to 16 bits (log 14)
are the model's too. So is what a step does first: the pins (log 7) and the strobes' end (logs 12 and 22). -/
def Obligations.DeadlinesAccumulate : Prop :=
  ∀ (s : State) (rest : List Task), s.nextPins.rst = false →
    (s.todo = .videoEnd :: rest → step s = .next { s.begin with
      todo := rest, videoDl := (s.videoDl + s.cfg.framePeriodMs) % 2 ^ s.cfg.clkW, phase := .audio }) ∧
    (s.todo = .audioEnd :: rest → step s = .next { s.begin with
      todo := rest, audioDl := (s.audioDl + s.retDur) % 2 ^ s.cfg.clkW, phase := .poll })

/-- After `NF` due video ticks from any frame index the index returns, and before that it passes through `NF`
different frames: in any succession of states of which each takes its frame index from a due VIDEO_TICK of the one
before (R21, R177). That each tick answers a next state, its sample keeping the clock's duty, is log 15. -/
def Obligations.FrameCursorCycles : Prop :=
  ∀ t : Nat → State, (t 0).cfg.legal = true → (t 0).frameIdx.toNat < (t 0).cfg.nf →
    (∀ n, (t n).cfg = (t 0).cfg ∧
      passedTest (t n).cfg ((t n).pins.msNow % 2 ^ (t n).cfg.clkW) (t n).videoDl = true ∧
      ∃ u, exec .videoTick (t n) = .next u ∧ (t (n + 1)).frameIdx = u.frameIdx) →
    (t (t 0).cfg.nf).frameIdx = (t 0).frameIdx ∧
      ∀ n, 0 < n → n < (t 0).cfg.nf → (t n).frameIdx ≠ (t 0).frameIdx

/-! ### Whole-machine rules -/

/-- The registers keep their ranges in every step (R21 to R32). X has its range without a width (log 13). The agenda
is the model's (log 9). A step under reset leaves ROW, X, NOW and the deadlines in range only because reset writes 0
there (logs 3 and 20), LINE with W entries by log 4, and the ROM as it was by log 20. Words at the sequencer (log 11)
and sub-steps outside a rule's precondition (log 21) count too, by the model's choice. -/
def Obligations.RegistersKeepRanges : Prop :=
  ∀ s s' : State, agendaOk s → cursorsOk s → registersOk s → step s = .next s' → registersOk s'

/-- The cursor is `(0, 0)` or a playable position after every step (R27). The cursor NEXT returned stands in the
model's result field (log 10). The agenda is too (log 9), with words at the sequencer (log 11) and sub-steps outside a
rule's precondition (log 21); and so are that result's (0, 0) after a reset (logs 10 and 20) and the ROM staying as it
was over it (log 20). -/
def Obligations.CursorStaysPlayable : Prop :=
  ∀ s s' : State, agendaOk s → cursorsOk s → step s = .next s' → cursorsOk s'

/-- No operation fails: from an agenda the block's own operations schedule, every step answers a next state, whose
agenda is such a one again; so every window emitted lies on the display (R13, R90, R200). The one stop is a clock
sample that breaks the environment's duty, a run that is not modelled (R215, R216, U6; log 15). The agenda is the
model's (log 9). A wait at a port or for the ROM counts as a step by the model's choice (log 8), where U8 calls it
stuck with no enabled step. Words at the sequencer (log 11), sub-steps outside a rule's precondition (log 21), the one
acknowledge after which INIT samples (log 12), and the empty agenda after a reset (logs 9 and 20) are the model's
choices too. -/
def Obligations.StepsNeverFail : Prop :=
  ∀ s : State, agendaOk s →
    (dutyKept s = true → ∃ s', step s = .next s' ∧ agendaOk s') ∧
    (dutyKept s = false → step s = .refused .clockAssumption)

/-- From the sampled mute on nothing loud is scheduled until an unmute: every step keeps it (R181, law d). The agenda
is the model's (log 9). A word at the sequencer, which counts as loud, is log 11. -/
def Obligations.SilenceScheduled : Prop :=
  ∀ s s' : State, silenceOk s → step s = .next s' → silenceOk s'

/-- While MUTED no step issues a sound write with a non-zero value (R181, law d). The agenda is the model's (log 9). A
word at the sequencer, which counts as loud, is log 11. -/
def Obligations.SilenceWhileMuted : Prop :=
  ∀ s s' : State, silenceOk s → s.muted = true → step s = .next s' →
    ∃ evs, s'.trace = s.trace ++ evs ∧ ∀ e ∈ evs, soundsVoice e = false

/-- A status bit once set stays set until reset, and bit 7 is never set (R33). -/
def Obligations.StatusSticky : Prop :=
  ∀ s s' : State, s.nextPins.rst = false → step s = .next s' →
    s.status &&& s'.status = s.status ∧ (s.status.getLsbD 7 = false → s'.status.getLsbD 7 = false)

/-- No operation reads STATUS: the flags a step sets are the same whatever STATUS holds (one mask, or-ed into it), and
so is everything else it does; a step under reset answers one state whatever STATUS held; and a flag is cleared by
reset and by nothing else (R203). -/
def Obligations.StatusNeverRead : Prop :=
  (∀ s s' : State, step s = .next s' →
    (s.nextPins.rst = false → ∃ m : BitVec 8, s'.status = s.status ||| m ∧
      ∀ v : BitVec 8, step { s with status := v } = .next { s' with status := v ||| m }) ∧
    (s.nextPins.rst = true → s'.status = 0 ∧ ∀ v : BitVec 8, step { s with status := v } = .next s')) ∧
  (∀ (s : State) (v : BitVec 8),
    (∀ f, step s = .fault f → step { s with status := v } = .fault f) ∧
    (∀ r, step s = .refused r → step { s with status := v } = .refused r)) ∧
  (∀ (s s' : State) (f : Flag), step s = .next s' →
    (s.nextPins.rst = true → s'.flagged f = false) ∧
    (s.flagged f = true → s'.flagged f = false → s.nextPins.rst = true))

/-- Video and audio read and write only their own state, NOW, STATUS and the ports: a sub-step of video leaves the
registers of audio as they are, and with any other values there its result is the same but for them; and the other way
round (R181, law a). The sub-steps (log 9) and the result fields (log 10) are the model's. The record of the last
sample, which both write (log 15), and sub-steps outside a rule's precondition, such as ADVANCE while MUTED (log 21),
are too. -/
def Obligations.VideoAudioIndependent : Prop :=
  ∀ (k : Task) (s t u : State), runTask k s = .next t →
    (isVideoTask k = true → withAudioOf t s = t ∧ runTask k (withAudioOf s u) = .next (withAudioOf t u)) ∧
    (isAudioTask k = true → withVideoOf t s = t ∧ runTask k (withVideoOf s u) = .next (withVideoOf t u))

/-- Each register and each flag of STATUS is written only by the operations its rules name (R21 to R33, R180, R202); a
word at the sequencer stands for the row it decodes to. The sub-steps are the model's (log 9). A word at the sequencer
is the model's (log 11). So is PHASE's moving on (log 9), also by a sub-step run on its own (log 21). -/
def Obligations.RegisterWriters : Prop :=
  ∀ s s' : State, s.nextPins.rst = false → step s = .next s' →
    (s'.frameIdx ≠ s.frameIdx → ran s = .op .videoTick) ∧
    (s'.videoDl ≠ s.videoDl → ran s = .op .init ∨ ran s = .videoEnd) ∧
    (s'.audioDl ≠ s.audioDl → ran s = .op .init ∨ ran s = .audioEnd ∨ ran s = .muteEnd ∨ ran s = .op .unmute) ∧
    (s'.muted ≠ s.muted → ran s = .op .mute ∨ ran s = .op .unmute) ∧
    ((s'.seqPos ≠ s.seqPos ∨ s'.noteIdx ≠ s.noteIdx) →
      ran s = .storeCursor ∨ ran s = .clearCursor ∨ ran s = .op .unmute) ∧
    (s'.now ≠ s.now → writesNow (ran s) = true) ∧
    (s'.phase ≠ s.phase → writesPhase (ran s) = true) ∧
    (s'.pal ≠ s.pal → ran s = .op .init ∨ ∃ r g b, ran s = .op (.pal r g b)) ∧
    (s'.line ≠ s.line ∨ s'.x ≠ s.x → writesLine (ran s) = true) ∧
    (s'.row ≠ s.row → ∃ r, ran s = .setRow r) ∧
    (s'.rp ≠ s.rp ∨ s'.rem ≠ s.rem → writesRun (ran s) = true) ∧
    (s'.curP ≠ s.curP ∨ s'.curL ≠ s.curL → writesCur (ran s) = true) ∧
    (∀ f, s'.flagged f ≠ s.flagged f → mayFlag f (ran s) = true) ∧
    (s'.status.getLsbD 7 = s.status.getLsbD 7)

/-- The reset state meets the invariants, under every legal parameter assignment. The unspecified registers are in
range by the model's choice (logs 3 and 4). So are the cursor (0, 0) in NEXT's result field (log 10), the empty agenda
(log 9), the ROM with nothing placed (log 5) and the parameters as a field of the state (log 1). -/
def Obligations.ResetMeetsInvariants : Prop :=
  ∀ c : Params, c.legal = true →
    agendaOk (State.resetWith c) ∧ registersOk (State.resetWith c) ∧ cursorsOk (State.resetWith c) ∧
      offersOk (State.resetWith c) ∧ silenceOk (State.resetWith c)
end

