-- ==== Sys2Proof/Laws/Memory.lean ====
section
/-! SUPPORT. The asset ROM: a read after a write, and the canonical form every memory operation keeps (R50, log 5). -/

namespace Sys2Proof.Machine

@[simp] theorem Memory.read_nil (a : Nat) : Memory.read [] a = Config.romFill := rfl

@[simp] theorem Memory.wf_nil : Memory.wf [] = true := rfl

/-- Below the first address of a canonical list there is only the fill. -/
theorem Memory.read_of_lt {m : Memory} {lo a : Nat} (h : Memory.risingFrom m lo = true) (ha : a < lo) :
    Memory.read m a = Config.romFill := by
  induction m generalizing lo with
  | nil => rfl
  | cons c rest ih =>
    obtain ⟨b, v⟩ := c
    simp only [Memory.risingFrom, Bool.and_eq_true, decide_eq_true_eq] at h
    obtain ⟨⟨hb, -⟩, hr⟩ := h
    simp only [Memory.read]
    rw [if_neg (by omega)]
    exact ih hr (by omega)

theorem Memory.risingFrom_mono {m : Memory} {lo lo' : Nat} (h : Memory.risingFrom m lo = true) (hl : lo' ≤ lo) :
    Memory.risingFrom m lo' = true := by
  cases m with
  | nil => rfl
  | cons c rest =>
    simp only [Memory.risingFrom, Bool.and_eq_true, decide_eq_true_eq] at h ⊢
    exact ⟨⟨by omega, h.1.2⟩, h.2⟩

/-- A write at or above the bound keeps the form. -/
theorem Memory.write_rising {m : Memory} {lo a : Nat} (v : Byte) (h : Memory.risingFrom m lo = true) (ha : lo ≤ a) :
    Memory.risingFrom (Memory.write m a v) lo = true := by
  induction m generalizing lo with
  | nil =>
    by_cases hv : v = Config.romFill <;> simp [Memory.write, Memory.risingFrom, hv, ha]
  | cons c rest ih =>
    obtain ⟨b, u⟩ := c
    have h0 := h
    simp only [Memory.risingFrom, Bool.and_eq_true, decide_eq_true_eq] at h
    obtain ⟨⟨hb, hu⟩, hr⟩ := h
    simp only [Memory.write]
    split
    next hlt =>
      by_cases hv : v = Config.romFill
      · simpa [hv] using h0
      · rw [if_neg hv]
        simp only [Memory.risingFrom, Bool.and_eq_true, decide_eq_true_eq]
        exact ⟨⟨ha, by simpa using hv⟩, ⟨by omega, hu⟩, hr⟩
    next hlt =>
      split
      next he =>
        subst he
        by_cases hv : v = Config.romFill
        · rw [if_pos hv]
          exact Memory.risingFrom_mono hr (by omega)
        · rw [if_neg hv]
          simp only [Memory.risingFrom, Bool.and_eq_true, decide_eq_true_eq]
          exact ⟨⟨ha, by simpa using hv⟩, hr⟩
      next he =>
        simp only [Memory.risingFrom, Bool.and_eq_true, decide_eq_true_eq]
        exact ⟨⟨hb, hu⟩, ih hr (by omega)⟩

theorem Memory.write_wf {m : Memory} (h : Memory.wf m = true) (a : Nat) (v : Byte) :
    Memory.wf (Memory.write m a v) = true :=
  Memory.write_rising v h (Nat.zero_le a)

theorem Memory.load_wf {m : Memory} (h : Memory.wf m = true) (a : Nat) (bs : List Byte) :
    Memory.wf (Memory.load m a bs) = true := by
  induction bs generalizing m a with
  | nil => exact h
  | cons b bs ih => exact ih (Memory.write_wf h a b) (a + 1)

/-- Reading where a byte was placed gives that byte; every other address reads as before. -/
theorem Memory.read_write_rising {m : Memory} {lo a c : Nat} (v : Byte) (h : Memory.risingFrom m lo = true) :
    Memory.read (Memory.write m a v) c = if c = a then v else Memory.read m c := by
  induction m generalizing lo with
  | nil =>
    by_cases hv : v = Config.romFill <;> by_cases hc : c = a <;> simp [Memory.write, Memory.read, hv, hc, eq_comm]
    intro he; exact absurd he.symm hc
  | cons e rest ih =>
    obtain ⟨b, u⟩ := e
    simp only [Memory.risingFrom, Bool.and_eq_true, decide_eq_true_eq] at h
    obtain ⟨⟨hb, hu⟩, hr⟩ := h
    simp only [Memory.write]
    split
    next hlt =>
      by_cases hv : v = Config.romFill
      · rw [if_pos hv]
        by_cases hc : c = a
        · subst hc
          simp only [Memory.read, if_true]
          rw [if_neg (by omega), Memory.read_of_lt hr (by omega), hv]
        · rw [if_neg hc]
      · rw [if_neg hv]
        by_cases hc : c = a <;> simp [Memory.read, hc, eq_comm]
        intro he; exact absurd he.symm hc
    next hlt =>
      split
      next he =>
        subst he
        by_cases hv : v = Config.romFill
        · rw [if_pos hv]
          by_cases hc : c = a
          · subst hc
            rw [if_pos rfl, Memory.read_of_lt hr (by omega), hv]
          · rw [if_neg hc]
            simp only [Memory.read]
            rw [if_neg (fun h => hc h.symm)]
        · rw [if_neg hv]
          by_cases hc : c = a
          · simp [Memory.read, hc]
          · simp [Memory.read, hc, Ne.symm hc]
      next he =>
        simp only [Memory.read]
        by_cases hbc : b = c
        · rw [if_pos hbc, if_neg (by omega), if_pos hbc]
        · rw [if_neg hbc, if_neg hbc]
          exact ih hr

theorem Memory.read_write {m : Memory} (h : Memory.wf m = true) (a c : Nat) (v : Byte) :
    Memory.read (Memory.write m a v) c = if c = a then v else Memory.read m c :=
  Memory.read_write_rising v h

theorem reset_rom_wf (c : Params) : Memory.wf (State.resetWith c).rom = true := rfl

end Sys2Proof.Machine
end

