-- ==== Sys2Proof/Laws/State.lean ====
section
/-! SUPPORT. What each plain update of the state does to each field: one lemma a field, true by rfl. -/

namespace Sys2Proof.Machine

variable (s : State)

/-! ### State.flag -/

@[simp] theorem State.flag_cfg (f : Flag) : (s.flag f).cfg = s.cfg := rfl
@[simp] theorem State.flag_phase (f : Flag) : (s.flag f).phase = s.phase := rfl
@[simp] theorem State.flag_frameIdx (f : Flag) : (s.flag f).frameIdx = s.frameIdx := rfl
@[simp] theorem State.flag_videoDl (f : Flag) : (s.flag f).videoDl = s.videoDl := rfl
@[simp] theorem State.flag_audioDl (f : Flag) : (s.flag f).audioDl = s.audioDl := rfl
@[simp] theorem State.flag_muted (f : Flag) : (s.flag f).muted = s.muted := rfl
@[simp] theorem State.flag_seqPos (f : Flag) : (s.flag f).seqPos = s.seqPos := rfl
@[simp] theorem State.flag_noteIdx (f : Flag) : (s.flag f).noteIdx = s.noteIdx := rfl
@[simp] theorem State.flag_now (f : Flag) : (s.flag f).now = s.now := rfl
@[simp] theorem State.flag_lastSample (f : Flag) : (s.flag f).lastSample = s.lastSample := rfl
@[simp] theorem State.flag_pal (f : Flag) : (s.flag f).pal = s.pal := rfl
@[simp] theorem State.flag_line (f : Flag) : (s.flag f).line = s.line := rfl
@[simp] theorem State.flag_row (f : Flag) : (s.flag f).row = s.row := rfl
@[simp] theorem State.flag_rp (f : Flag) : (s.flag f).rp = s.rp := rfl
@[simp] theorem State.flag_rem (f : Flag) : (s.flag f).rem = s.rem := rfl
@[simp] theorem State.flag_x (f : Flag) : (s.flag f).x = s.x := rfl
@[simp] theorem State.flag_curP (f : Flag) : (s.flag f).curP = s.curP := rfl
@[simp] theorem State.flag_curL (f : Flag) : (s.flag f).curL = s.curL := rfl
@[simp] theorem State.flag_status (f : Flag) : (s.flag f).status = s.status ||| flagMask f := rfl
@[simp] theorem State.flag_rearm (f : Flag) : (s.flag f).rearm = s.rearm := rfl
@[simp] theorem State.flag_dispValid (f : Flag) : (s.flag f).dispValid = s.dispValid := rfl
@[simp] theorem State.flag_dispCmd (f : Flag) : (s.flag f).dispCmd = s.dispCmd := rfl
@[simp] theorem State.flag_dispData (f : Flag) : (s.flag f).dispData = s.dispData := rfl
@[simp] theorem State.flag_sndValid (f : Flag) : (s.flag f).sndValid = s.sndValid := rfl
@[simp] theorem State.flag_sndVoice (f : Flag) : (s.flag f).sndVoice = s.sndVoice := rfl
@[simp] theorem State.flag_sndFreq (f : Flag) : (s.flag f).sndFreq = s.sndFreq := rfl
@[simp] theorem State.flag_romReq (f : Flag) : (s.flag f).romReq = s.romReq := rfl
@[simp] theorem State.flag_romAddr (f : Flag) : (s.flag f).romAddr = s.romAddr := rfl
@[simp] theorem State.flag_rom (f : Flag) : (s.flag f).rom = s.rom := rfl
@[simp] theorem State.flag_pins (f : Flag) : (s.flag f).pins = s.pins := rfl
@[simp] theorem State.flag_stimulus (f : Flag) : (s.flag f).stimulus = s.stimulus := rfl
@[simp] theorem State.flag_tick (f : Flag) : (s.flag f).tick = s.tick := rfl
@[simp] theorem State.flag_trace (f : Flag) : (s.flag f).trace = s.trace := rfl
@[simp] theorem State.flag_todo (f : Flag) : (s.flag f).todo = s.todo := rfl
@[simp] theorem State.flag_mreq (f : Flag) : (s.flag f).mreq = s.mreq := rfl
@[simp] theorem State.flag_ureq (f : Flag) : (s.flag f).ureq = s.ureq := rfl
@[simp] theorem State.flag_palIdx (f : Flag) : (s.flag f).palIdx = s.palIdx := rfl
@[simp] theorem State.flag_retPassed (f : Flag) : (s.flag f).retPassed = s.retPassed := rfl
@[simp] theorem State.flag_retMeas (f : Flag) : (s.flag f).retMeas = s.retMeas := rfl
@[simp] theorem State.flag_retFound (f : Flag) : (s.flag f).retFound = s.retFound := rfl
@[simp] theorem State.flag_retNext (f : Flag) : (s.flag f).retNext = s.retNext := rfl
@[simp] theorem State.flag_retDur (f : Flag) : (s.flag f).retDur = s.retDur := rfl
@[simp] theorem State.flag_draws (f : Flag) : (s.flag f).draws = s.draws := rfl

/-! ### State.push -/

@[simp] theorem State.push_cfg (ts : List Task) : (s.push ts).cfg = s.cfg := rfl
@[simp] theorem State.push_phase (ts : List Task) : (s.push ts).phase = s.phase := rfl
@[simp] theorem State.push_frameIdx (ts : List Task) : (s.push ts).frameIdx = s.frameIdx := rfl
@[simp] theorem State.push_videoDl (ts : List Task) : (s.push ts).videoDl = s.videoDl := rfl
@[simp] theorem State.push_audioDl (ts : List Task) : (s.push ts).audioDl = s.audioDl := rfl
@[simp] theorem State.push_muted (ts : List Task) : (s.push ts).muted = s.muted := rfl
@[simp] theorem State.push_seqPos (ts : List Task) : (s.push ts).seqPos = s.seqPos := rfl
@[simp] theorem State.push_noteIdx (ts : List Task) : (s.push ts).noteIdx = s.noteIdx := rfl
@[simp] theorem State.push_now (ts : List Task) : (s.push ts).now = s.now := rfl
@[simp] theorem State.push_lastSample (ts : List Task) : (s.push ts).lastSample = s.lastSample := rfl
@[simp] theorem State.push_pal (ts : List Task) : (s.push ts).pal = s.pal := rfl
@[simp] theorem State.push_line (ts : List Task) : (s.push ts).line = s.line := rfl
@[simp] theorem State.push_row (ts : List Task) : (s.push ts).row = s.row := rfl
@[simp] theorem State.push_rp (ts : List Task) : (s.push ts).rp = s.rp := rfl
@[simp] theorem State.push_rem (ts : List Task) : (s.push ts).rem = s.rem := rfl
@[simp] theorem State.push_x (ts : List Task) : (s.push ts).x = s.x := rfl
@[simp] theorem State.push_curP (ts : List Task) : (s.push ts).curP = s.curP := rfl
@[simp] theorem State.push_curL (ts : List Task) : (s.push ts).curL = s.curL := rfl
@[simp] theorem State.push_status (ts : List Task) : (s.push ts).status = s.status := rfl
@[simp] theorem State.push_rearm (ts : List Task) : (s.push ts).rearm = s.rearm := rfl
@[simp] theorem State.push_dispValid (ts : List Task) : (s.push ts).dispValid = s.dispValid := rfl
@[simp] theorem State.push_dispCmd (ts : List Task) : (s.push ts).dispCmd = s.dispCmd := rfl
@[simp] theorem State.push_dispData (ts : List Task) : (s.push ts).dispData = s.dispData := rfl
@[simp] theorem State.push_sndValid (ts : List Task) : (s.push ts).sndValid = s.sndValid := rfl
@[simp] theorem State.push_sndVoice (ts : List Task) : (s.push ts).sndVoice = s.sndVoice := rfl
@[simp] theorem State.push_sndFreq (ts : List Task) : (s.push ts).sndFreq = s.sndFreq := rfl
@[simp] theorem State.push_romReq (ts : List Task) : (s.push ts).romReq = s.romReq := rfl
@[simp] theorem State.push_romAddr (ts : List Task) : (s.push ts).romAddr = s.romAddr := rfl
@[simp] theorem State.push_rom (ts : List Task) : (s.push ts).rom = s.rom := rfl
@[simp] theorem State.push_pins (ts : List Task) : (s.push ts).pins = s.pins := rfl
@[simp] theorem State.push_stimulus (ts : List Task) : (s.push ts).stimulus = s.stimulus := rfl
@[simp] theorem State.push_tick (ts : List Task) : (s.push ts).tick = s.tick := rfl
@[simp] theorem State.push_trace (ts : List Task) : (s.push ts).trace = s.trace := rfl
@[simp] theorem State.push_todo (ts : List Task) : (s.push ts).todo = ts ++ s.todo := rfl
@[simp] theorem State.push_mreq (ts : List Task) : (s.push ts).mreq = s.mreq := rfl
@[simp] theorem State.push_ureq (ts : List Task) : (s.push ts).ureq = s.ureq := rfl
@[simp] theorem State.push_palIdx (ts : List Task) : (s.push ts).palIdx = s.palIdx := rfl
@[simp] theorem State.push_retPassed (ts : List Task) : (s.push ts).retPassed = s.retPassed := rfl
@[simp] theorem State.push_retMeas (ts : List Task) : (s.push ts).retMeas = s.retMeas := rfl
@[simp] theorem State.push_retFound (ts : List Task) : (s.push ts).retFound = s.retFound := rfl
@[simp] theorem State.push_retNext (ts : List Task) : (s.push ts).retNext = s.retNext := rfl
@[simp] theorem State.push_retDur (ts : List Task) : (s.push ts).retDur = s.retDur := rfl
@[simp] theorem State.push_draws (ts : List Task) : (s.push ts).draws = s.draws := rfl

/-! ### State.record -/

@[simp] theorem State.record_cfg (e : Event) : (s.record e).cfg = s.cfg := rfl
@[simp] theorem State.record_phase (e : Event) : (s.record e).phase = s.phase := rfl
@[simp] theorem State.record_frameIdx (e : Event) : (s.record e).frameIdx = s.frameIdx := rfl
@[simp] theorem State.record_videoDl (e : Event) : (s.record e).videoDl = s.videoDl := rfl
@[simp] theorem State.record_audioDl (e : Event) : (s.record e).audioDl = s.audioDl := rfl
@[simp] theorem State.record_muted (e : Event) : (s.record e).muted = s.muted := rfl
@[simp] theorem State.record_seqPos (e : Event) : (s.record e).seqPos = s.seqPos := rfl
@[simp] theorem State.record_noteIdx (e : Event) : (s.record e).noteIdx = s.noteIdx := rfl
@[simp] theorem State.record_now (e : Event) : (s.record e).now = s.now := rfl
@[simp] theorem State.record_lastSample (e : Event) : (s.record e).lastSample = s.lastSample := rfl
@[simp] theorem State.record_pal (e : Event) : (s.record e).pal = s.pal := rfl
@[simp] theorem State.record_line (e : Event) : (s.record e).line = s.line := rfl
@[simp] theorem State.record_row (e : Event) : (s.record e).row = s.row := rfl
@[simp] theorem State.record_rp (e : Event) : (s.record e).rp = s.rp := rfl
@[simp] theorem State.record_rem (e : Event) : (s.record e).rem = s.rem := rfl
@[simp] theorem State.record_x (e : Event) : (s.record e).x = s.x := rfl
@[simp] theorem State.record_curP (e : Event) : (s.record e).curP = s.curP := rfl
@[simp] theorem State.record_curL (e : Event) : (s.record e).curL = s.curL := rfl
@[simp] theorem State.record_status (e : Event) : (s.record e).status = s.status := rfl
@[simp] theorem State.record_rearm (e : Event) : (s.record e).rearm = s.rearm := rfl
@[simp] theorem State.record_dispValid (e : Event) : (s.record e).dispValid = s.dispValid := rfl
@[simp] theorem State.record_dispCmd (e : Event) : (s.record e).dispCmd = s.dispCmd := rfl
@[simp] theorem State.record_dispData (e : Event) : (s.record e).dispData = s.dispData := rfl
@[simp] theorem State.record_sndValid (e : Event) : (s.record e).sndValid = s.sndValid := rfl
@[simp] theorem State.record_sndVoice (e : Event) : (s.record e).sndVoice = s.sndVoice := rfl
@[simp] theorem State.record_sndFreq (e : Event) : (s.record e).sndFreq = s.sndFreq := rfl
@[simp] theorem State.record_romReq (e : Event) : (s.record e).romReq = s.romReq := rfl
@[simp] theorem State.record_romAddr (e : Event) : (s.record e).romAddr = s.romAddr := rfl
@[simp] theorem State.record_rom (e : Event) : (s.record e).rom = s.rom := rfl
@[simp] theorem State.record_pins (e : Event) : (s.record e).pins = s.pins := rfl
@[simp] theorem State.record_stimulus (e : Event) : (s.record e).stimulus = s.stimulus := rfl
@[simp] theorem State.record_tick (e : Event) : (s.record e).tick = s.tick := rfl
@[simp] theorem State.record_trace (e : Event) : (s.record e).trace = s.trace ++ [e] := rfl
@[simp] theorem State.record_todo (e : Event) : (s.record e).todo = s.todo := rfl
@[simp] theorem State.record_mreq (e : Event) : (s.record e).mreq = s.mreq := rfl
@[simp] theorem State.record_ureq (e : Event) : (s.record e).ureq = s.ureq := rfl
@[simp] theorem State.record_palIdx (e : Event) : (s.record e).palIdx = s.palIdx := rfl
@[simp] theorem State.record_retPassed (e : Event) : (s.record e).retPassed = s.retPassed := rfl
@[simp] theorem State.record_retMeas (e : Event) : (s.record e).retMeas = s.retMeas := rfl
@[simp] theorem State.record_retFound (e : Event) : (s.record e).retFound = s.retFound := rfl
@[simp] theorem State.record_retNext (e : Event) : (s.record e).retNext = s.retNext := rfl
@[simp] theorem State.record_retDur (e : Event) : (s.record e).retDur = s.retDur := rfl
@[simp] theorem State.record_draws (e : Event) : (s.record e).draws = s.draws := rfl

/-! ### State.sampleClock -/

@[simp] theorem State.sampleClock_cfg : (s.sampleClock).cfg = s.cfg := rfl
@[simp] theorem State.sampleClock_phase : (s.sampleClock).phase = s.phase := rfl
@[simp] theorem State.sampleClock_frameIdx : (s.sampleClock).frameIdx = s.frameIdx := rfl
@[simp] theorem State.sampleClock_videoDl : (s.sampleClock).videoDl = s.videoDl := rfl
@[simp] theorem State.sampleClock_audioDl : (s.sampleClock).audioDl = s.audioDl := rfl
@[simp] theorem State.sampleClock_muted : (s.sampleClock).muted = s.muted := rfl
@[simp] theorem State.sampleClock_seqPos : (s.sampleClock).seqPos = s.seqPos := rfl
@[simp] theorem State.sampleClock_noteIdx : (s.sampleClock).noteIdx = s.noteIdx := rfl
@[simp] theorem State.sampleClock_now : (s.sampleClock).now = s.pins.msNow % s.cfg.clkMod := rfl
@[simp] theorem State.sampleClock_lastSample : (s.sampleClock).lastSample = some (s.pins.msNow % s.cfg.clkMod) := rfl
@[simp] theorem State.sampleClock_pal : (s.sampleClock).pal = s.pal := rfl
@[simp] theorem State.sampleClock_line : (s.sampleClock).line = s.line := rfl
@[simp] theorem State.sampleClock_row : (s.sampleClock).row = s.row := rfl
@[simp] theorem State.sampleClock_rp : (s.sampleClock).rp = s.rp := rfl
@[simp] theorem State.sampleClock_rem : (s.sampleClock).rem = s.rem := rfl
@[simp] theorem State.sampleClock_x : (s.sampleClock).x = s.x := rfl
@[simp] theorem State.sampleClock_curP : (s.sampleClock).curP = s.curP := rfl
@[simp] theorem State.sampleClock_curL : (s.sampleClock).curL = s.curL := rfl
@[simp] theorem State.sampleClock_status : (s.sampleClock).status = s.status := rfl
@[simp] theorem State.sampleClock_rearm : (s.sampleClock).rearm = s.rearm := rfl
@[simp] theorem State.sampleClock_dispValid : (s.sampleClock).dispValid = s.dispValid := rfl
@[simp] theorem State.sampleClock_dispCmd : (s.sampleClock).dispCmd = s.dispCmd := rfl
@[simp] theorem State.sampleClock_dispData : (s.sampleClock).dispData = s.dispData := rfl
@[simp] theorem State.sampleClock_sndValid : (s.sampleClock).sndValid = s.sndValid := rfl
@[simp] theorem State.sampleClock_sndVoice : (s.sampleClock).sndVoice = s.sndVoice := rfl
@[simp] theorem State.sampleClock_sndFreq : (s.sampleClock).sndFreq = s.sndFreq := rfl
@[simp] theorem State.sampleClock_romReq : (s.sampleClock).romReq = s.romReq := rfl
@[simp] theorem State.sampleClock_romAddr : (s.sampleClock).romAddr = s.romAddr := rfl
@[simp] theorem State.sampleClock_rom : (s.sampleClock).rom = s.rom := rfl
@[simp] theorem State.sampleClock_pins : (s.sampleClock).pins = s.pins := rfl
@[simp] theorem State.sampleClock_stimulus : (s.sampleClock).stimulus = s.stimulus := rfl
@[simp] theorem State.sampleClock_tick : (s.sampleClock).tick = s.tick := rfl
@[simp] theorem State.sampleClock_trace : (s.sampleClock).trace = s.trace ++ [.clock (s.pins.msNow % s.cfg.clkMod)] := rfl
@[simp] theorem State.sampleClock_todo : (s.sampleClock).todo = s.todo := rfl
@[simp] theorem State.sampleClock_mreq : (s.sampleClock).mreq = s.mreq := rfl
@[simp] theorem State.sampleClock_ureq : (s.sampleClock).ureq = s.ureq := rfl
@[simp] theorem State.sampleClock_palIdx : (s.sampleClock).palIdx = s.palIdx := rfl
@[simp] theorem State.sampleClock_retPassed : (s.sampleClock).retPassed = s.retPassed := rfl
@[simp] theorem State.sampleClock_retMeas : (s.sampleClock).retMeas = s.retMeas := rfl
@[simp] theorem State.sampleClock_retFound : (s.sampleClock).retFound = s.retFound := rfl
@[simp] theorem State.sampleClock_retNext : (s.sampleClock).retNext = s.retNext := rfl
@[simp] theorem State.sampleClock_retDur : (s.sampleClock).retDur = s.retDur := rfl
@[simp] theorem State.sampleClock_draws : (s.sampleClock).draws = s.draws := rfl

/-! ### State.sampleInputs -/

@[simp] theorem State.sampleInputs_cfg : (s.sampleInputs).cfg = s.cfg := rfl
@[simp] theorem State.sampleInputs_phase : (s.sampleInputs).phase = s.phase := rfl
@[simp] theorem State.sampleInputs_frameIdx : (s.sampleInputs).frameIdx = s.frameIdx := rfl
@[simp] theorem State.sampleInputs_videoDl : (s.sampleInputs).videoDl = s.videoDl := rfl
@[simp] theorem State.sampleInputs_audioDl : (s.sampleInputs).audioDl = s.audioDl := rfl
@[simp] theorem State.sampleInputs_muted : (s.sampleInputs).muted = s.muted := rfl
@[simp] theorem State.sampleInputs_seqPos : (s.sampleInputs).seqPos = s.seqPos := rfl
@[simp] theorem State.sampleInputs_noteIdx : (s.sampleInputs).noteIdx = s.noteIdx := rfl
@[simp] theorem State.sampleInputs_now : (s.sampleInputs).now = s.now := rfl
@[simp] theorem State.sampleInputs_lastSample : (s.sampleInputs).lastSample = s.lastSample := rfl
@[simp] theorem State.sampleInputs_pal : (s.sampleInputs).pal = s.pal := rfl
@[simp] theorem State.sampleInputs_line : (s.sampleInputs).line = s.line := rfl
@[simp] theorem State.sampleInputs_row : (s.sampleInputs).row = s.row := rfl
@[simp] theorem State.sampleInputs_rp : (s.sampleInputs).rp = s.rp := rfl
@[simp] theorem State.sampleInputs_rem : (s.sampleInputs).rem = s.rem := rfl
@[simp] theorem State.sampleInputs_x : (s.sampleInputs).x = s.x := rfl
@[simp] theorem State.sampleInputs_curP : (s.sampleInputs).curP = s.curP := rfl
@[simp] theorem State.sampleInputs_curL : (s.sampleInputs).curL = s.curL := rfl
@[simp] theorem State.sampleInputs_status : (s.sampleInputs).status = s.status := rfl
@[simp] theorem State.sampleInputs_rearm : (s.sampleInputs).rearm = s.rearm := rfl
@[simp] theorem State.sampleInputs_dispValid : (s.sampleInputs).dispValid = s.dispValid := rfl
@[simp] theorem State.sampleInputs_dispCmd : (s.sampleInputs).dispCmd = s.dispCmd := rfl
@[simp] theorem State.sampleInputs_dispData : (s.sampleInputs).dispData = s.dispData := rfl
@[simp] theorem State.sampleInputs_sndValid : (s.sampleInputs).sndValid = s.sndValid := rfl
@[simp] theorem State.sampleInputs_sndVoice : (s.sampleInputs).sndVoice = s.sndVoice := rfl
@[simp] theorem State.sampleInputs_sndFreq : (s.sampleInputs).sndFreq = s.sndFreq := rfl
@[simp] theorem State.sampleInputs_romReq : (s.sampleInputs).romReq = s.romReq := rfl
@[simp] theorem State.sampleInputs_romAddr : (s.sampleInputs).romAddr = s.romAddr := rfl
@[simp] theorem State.sampleInputs_rom : (s.sampleInputs).rom = s.rom := rfl
@[simp] theorem State.sampleInputs_pins : (s.sampleInputs).pins = s.pins := rfl
@[simp] theorem State.sampleInputs_stimulus : (s.sampleInputs).stimulus = s.stimulus := rfl
@[simp] theorem State.sampleInputs_tick : (s.sampleInputs).tick = s.tick := rfl
@[simp] theorem State.sampleInputs_trace : (s.sampleInputs).trace = s.trace ++ [.input s.pins.muteN s.pins.unmuteN] := rfl
@[simp] theorem State.sampleInputs_todo : (s.sampleInputs).todo = s.todo := rfl
@[simp] theorem State.sampleInputs_mreq : (s.sampleInputs).mreq = (!s.pins.muteN) := rfl
@[simp] theorem State.sampleInputs_ureq : (s.sampleInputs).ureq = (!s.pins.unmuteN) := rfl
@[simp] theorem State.sampleInputs_palIdx : (s.sampleInputs).palIdx = s.palIdx := rfl
@[simp] theorem State.sampleInputs_retPassed : (s.sampleInputs).retPassed = s.retPassed := rfl
@[simp] theorem State.sampleInputs_retMeas : (s.sampleInputs).retMeas = s.retMeas := rfl
@[simp] theorem State.sampleInputs_retFound : (s.sampleInputs).retFound = s.retFound := rfl
@[simp] theorem State.sampleInputs_retNext : (s.sampleInputs).retNext = s.retNext := rfl
@[simp] theorem State.sampleInputs_retDur : (s.sampleInputs).retDur = s.retDur := rfl
@[simp] theorem State.sampleInputs_draws : (s.sampleInputs).draws = s.draws := rfl

/-! ### State.rearmStrobe -/

@[simp] theorem State.rearmStrobe_cfg : (s.rearmStrobe).cfg = s.cfg := rfl
@[simp] theorem State.rearmStrobe_phase : (s.rearmStrobe).phase = s.phase := rfl
@[simp] theorem State.rearmStrobe_frameIdx : (s.rearmStrobe).frameIdx = s.frameIdx := rfl
@[simp] theorem State.rearmStrobe_videoDl : (s.rearmStrobe).videoDl = s.videoDl := rfl
@[simp] theorem State.rearmStrobe_audioDl : (s.rearmStrobe).audioDl = s.audioDl := rfl
@[simp] theorem State.rearmStrobe_muted : (s.rearmStrobe).muted = s.muted := rfl
@[simp] theorem State.rearmStrobe_seqPos : (s.rearmStrobe).seqPos = s.seqPos := rfl
@[simp] theorem State.rearmStrobe_noteIdx : (s.rearmStrobe).noteIdx = s.noteIdx := rfl
@[simp] theorem State.rearmStrobe_now : (s.rearmStrobe).now = s.now := rfl
@[simp] theorem State.rearmStrobe_lastSample : (s.rearmStrobe).lastSample = s.lastSample := rfl
@[simp] theorem State.rearmStrobe_pal : (s.rearmStrobe).pal = s.pal := rfl
@[simp] theorem State.rearmStrobe_line : (s.rearmStrobe).line = s.line := rfl
@[simp] theorem State.rearmStrobe_row : (s.rearmStrobe).row = s.row := rfl
@[simp] theorem State.rearmStrobe_rp : (s.rearmStrobe).rp = s.rp := rfl
@[simp] theorem State.rearmStrobe_rem : (s.rearmStrobe).rem = s.rem := rfl
@[simp] theorem State.rearmStrobe_x : (s.rearmStrobe).x = s.x := rfl
@[simp] theorem State.rearmStrobe_curP : (s.rearmStrobe).curP = s.curP := rfl
@[simp] theorem State.rearmStrobe_curL : (s.rearmStrobe).curL = s.curL := rfl
@[simp] theorem State.rearmStrobe_status : (s.rearmStrobe).status = s.status := rfl
@[simp] theorem State.rearmStrobe_rearm : (s.rearmStrobe).rearm = true := rfl
@[simp] theorem State.rearmStrobe_dispValid : (s.rearmStrobe).dispValid = s.dispValid := rfl
@[simp] theorem State.rearmStrobe_dispCmd : (s.rearmStrobe).dispCmd = s.dispCmd := rfl
@[simp] theorem State.rearmStrobe_dispData : (s.rearmStrobe).dispData = s.dispData := rfl
@[simp] theorem State.rearmStrobe_sndValid : (s.rearmStrobe).sndValid = s.sndValid := rfl
@[simp] theorem State.rearmStrobe_sndVoice : (s.rearmStrobe).sndVoice = s.sndVoice := rfl
@[simp] theorem State.rearmStrobe_sndFreq : (s.rearmStrobe).sndFreq = s.sndFreq := rfl
@[simp] theorem State.rearmStrobe_romReq : (s.rearmStrobe).romReq = s.romReq := rfl
@[simp] theorem State.rearmStrobe_romAddr : (s.rearmStrobe).romAddr = s.romAddr := rfl
@[simp] theorem State.rearmStrobe_rom : (s.rearmStrobe).rom = s.rom := rfl
@[simp] theorem State.rearmStrobe_pins : (s.rearmStrobe).pins = s.pins := rfl
@[simp] theorem State.rearmStrobe_stimulus : (s.rearmStrobe).stimulus = s.stimulus := rfl
@[simp] theorem State.rearmStrobe_tick : (s.rearmStrobe).tick = s.tick := rfl
@[simp] theorem State.rearmStrobe_trace : (s.rearmStrobe).trace = s.trace ++ [.rearm] := rfl
@[simp] theorem State.rearmStrobe_todo : (s.rearmStrobe).todo = s.todo := rfl
@[simp] theorem State.rearmStrobe_mreq : (s.rearmStrobe).mreq = s.mreq := rfl
@[simp] theorem State.rearmStrobe_ureq : (s.rearmStrobe).ureq = s.ureq := rfl
@[simp] theorem State.rearmStrobe_palIdx : (s.rearmStrobe).palIdx = s.palIdx := rfl
@[simp] theorem State.rearmStrobe_retPassed : (s.rearmStrobe).retPassed = s.retPassed := rfl
@[simp] theorem State.rearmStrobe_retMeas : (s.rearmStrobe).retMeas = s.retMeas := rfl
@[simp] theorem State.rearmStrobe_retFound : (s.rearmStrobe).retFound = s.retFound := rfl
@[simp] theorem State.rearmStrobe_retNext : (s.rearmStrobe).retNext = s.retNext := rfl
@[simp] theorem State.rearmStrobe_retDur : (s.rearmStrobe).retDur = s.retDur := rfl
@[simp] theorem State.rearmStrobe_draws : (s.rearmStrobe).draws = s.draws := rfl

/-! ### State.begin -/

@[simp] theorem State.begin_cfg : (s.begin).cfg = s.cfg := rfl
@[simp] theorem State.begin_phase : (s.begin).phase = s.phase := rfl
@[simp] theorem State.begin_frameIdx : (s.begin).frameIdx = s.frameIdx := rfl
@[simp] theorem State.begin_videoDl : (s.begin).videoDl = s.videoDl := rfl
@[simp] theorem State.begin_audioDl : (s.begin).audioDl = s.audioDl := rfl
@[simp] theorem State.begin_muted : (s.begin).muted = s.muted := rfl
@[simp] theorem State.begin_seqPos : (s.begin).seqPos = s.seqPos := rfl
@[simp] theorem State.begin_noteIdx : (s.begin).noteIdx = s.noteIdx := rfl
@[simp] theorem State.begin_now : (s.begin).now = s.now := rfl
@[simp] theorem State.begin_lastSample : (s.begin).lastSample = s.lastSample := rfl
@[simp] theorem State.begin_pal : (s.begin).pal = s.pal := rfl
@[simp] theorem State.begin_line : (s.begin).line = s.line := rfl
@[simp] theorem State.begin_row : (s.begin).row = s.row := rfl
@[simp] theorem State.begin_rp : (s.begin).rp = s.rp := rfl
@[simp] theorem State.begin_rem : (s.begin).rem = s.rem := rfl
@[simp] theorem State.begin_x : (s.begin).x = s.x := rfl
@[simp] theorem State.begin_curP : (s.begin).curP = s.curP := rfl
@[simp] theorem State.begin_curL : (s.begin).curL = s.curL := rfl
@[simp] theorem State.begin_status : (s.begin).status = s.status := rfl
@[simp] theorem State.begin_rearm : (s.begin).rearm = false := rfl
@[simp] theorem State.begin_dispValid : (s.begin).dispValid = s.dispValid := rfl
@[simp] theorem State.begin_dispCmd : (s.begin).dispCmd = s.dispCmd := rfl
@[simp] theorem State.begin_dispData : (s.begin).dispData = s.dispData := rfl
@[simp] theorem State.begin_sndValid : (s.begin).sndValid = s.sndValid := rfl
@[simp] theorem State.begin_sndVoice : (s.begin).sndVoice = s.sndVoice := rfl
@[simp] theorem State.begin_sndFreq : (s.begin).sndFreq = s.sndFreq := rfl
@[simp] theorem State.begin_romReq : (s.begin).romReq = false := rfl
@[simp] theorem State.begin_romAddr : (s.begin).romAddr = s.romAddr := rfl
@[simp] theorem State.begin_rom : (s.begin).rom = s.rom := rfl
@[simp] theorem State.begin_pins : (s.begin).pins = s.nextPins := rfl
@[simp] theorem State.begin_stimulus : (s.begin).stimulus = s.stimulus.tail := rfl
@[simp] theorem State.begin_tick : (s.begin).tick = s.tick + 1 := rfl
@[simp] theorem State.begin_trace : (s.begin).trace = s.trace := rfl
@[simp] theorem State.begin_todo : (s.begin).todo = s.todo := rfl
@[simp] theorem State.begin_mreq : (s.begin).mreq = s.mreq := rfl
@[simp] theorem State.begin_ureq : (s.begin).ureq = s.ureq := rfl
@[simp] theorem State.begin_palIdx : (s.begin).palIdx = s.palIdx := rfl
@[simp] theorem State.begin_retPassed : (s.begin).retPassed = s.retPassed := rfl
@[simp] theorem State.begin_retMeas : (s.begin).retMeas = s.retMeas := rfl
@[simp] theorem State.begin_retFound : (s.begin).retFound = s.retFound := rfl
@[simp] theorem State.begin_retNext : (s.begin).retNext = s.retNext := rfl
@[simp] theorem State.begin_retDur : (s.begin).retDur = s.retDur := rfl
@[simp] theorem State.begin_draws : (s.begin).draws = s.draws := rfl

/-! ### State.setCursor -/

@[simp] theorem State.setCursor_cfg (c : Cursor) : (s.setCursor c).cfg = s.cfg := rfl
@[simp] theorem State.setCursor_phase (c : Cursor) : (s.setCursor c).phase = s.phase := rfl
@[simp] theorem State.setCursor_frameIdx (c : Cursor) : (s.setCursor c).frameIdx = s.frameIdx := rfl
@[simp] theorem State.setCursor_videoDl (c : Cursor) : (s.setCursor c).videoDl = s.videoDl := rfl
@[simp] theorem State.setCursor_audioDl (c : Cursor) : (s.setCursor c).audioDl = s.audioDl := rfl
@[simp] theorem State.setCursor_muted (c : Cursor) : (s.setCursor c).muted = s.muted := rfl
@[simp] theorem State.setCursor_seqPos (c : Cursor) : (s.setCursor c).seqPos = c.pos := rfl
@[simp] theorem State.setCursor_noteIdx (c : Cursor) : (s.setCursor c).noteIdx = c.idx := rfl
@[simp] theorem State.setCursor_now (c : Cursor) : (s.setCursor c).now = s.now := rfl
@[simp] theorem State.setCursor_lastSample (c : Cursor) : (s.setCursor c).lastSample = s.lastSample := rfl
@[simp] theorem State.setCursor_pal (c : Cursor) : (s.setCursor c).pal = s.pal := rfl
@[simp] theorem State.setCursor_line (c : Cursor) : (s.setCursor c).line = s.line := rfl
@[simp] theorem State.setCursor_row (c : Cursor) : (s.setCursor c).row = s.row := rfl
@[simp] theorem State.setCursor_rp (c : Cursor) : (s.setCursor c).rp = s.rp := rfl
@[simp] theorem State.setCursor_rem (c : Cursor) : (s.setCursor c).rem = s.rem := rfl
@[simp] theorem State.setCursor_x (c : Cursor) : (s.setCursor c).x = s.x := rfl
@[simp] theorem State.setCursor_curP (c : Cursor) : (s.setCursor c).curP = s.curP := rfl
@[simp] theorem State.setCursor_curL (c : Cursor) : (s.setCursor c).curL = s.curL := rfl
@[simp] theorem State.setCursor_status (c : Cursor) : (s.setCursor c).status = s.status := rfl
@[simp] theorem State.setCursor_rearm (c : Cursor) : (s.setCursor c).rearm = s.rearm := rfl
@[simp] theorem State.setCursor_dispValid (c : Cursor) : (s.setCursor c).dispValid = s.dispValid := rfl
@[simp] theorem State.setCursor_dispCmd (c : Cursor) : (s.setCursor c).dispCmd = s.dispCmd := rfl
@[simp] theorem State.setCursor_dispData (c : Cursor) : (s.setCursor c).dispData = s.dispData := rfl
@[simp] theorem State.setCursor_sndValid (c : Cursor) : (s.setCursor c).sndValid = s.sndValid := rfl
@[simp] theorem State.setCursor_sndVoice (c : Cursor) : (s.setCursor c).sndVoice = s.sndVoice := rfl
@[simp] theorem State.setCursor_sndFreq (c : Cursor) : (s.setCursor c).sndFreq = s.sndFreq := rfl
@[simp] theorem State.setCursor_romReq (c : Cursor) : (s.setCursor c).romReq = s.romReq := rfl
@[simp] theorem State.setCursor_romAddr (c : Cursor) : (s.setCursor c).romAddr = s.romAddr := rfl
@[simp] theorem State.setCursor_rom (c : Cursor) : (s.setCursor c).rom = s.rom := rfl
@[simp] theorem State.setCursor_pins (c : Cursor) : (s.setCursor c).pins = s.pins := rfl
@[simp] theorem State.setCursor_stimulus (c : Cursor) : (s.setCursor c).stimulus = s.stimulus := rfl
@[simp] theorem State.setCursor_tick (c : Cursor) : (s.setCursor c).tick = s.tick := rfl
@[simp] theorem State.setCursor_trace (c : Cursor) : (s.setCursor c).trace = s.trace := rfl
@[simp] theorem State.setCursor_todo (c : Cursor) : (s.setCursor c).todo = s.todo := rfl
@[simp] theorem State.setCursor_mreq (c : Cursor) : (s.setCursor c).mreq = s.mreq := rfl
@[simp] theorem State.setCursor_ureq (c : Cursor) : (s.setCursor c).ureq = s.ureq := rfl
@[simp] theorem State.setCursor_palIdx (c : Cursor) : (s.setCursor c).palIdx = s.palIdx := rfl
@[simp] theorem State.setCursor_retPassed (c : Cursor) : (s.setCursor c).retPassed = s.retPassed := rfl
@[simp] theorem State.setCursor_retMeas (c : Cursor) : (s.setCursor c).retMeas = s.retMeas := rfl
@[simp] theorem State.setCursor_retFound (c : Cursor) : (s.setCursor c).retFound = s.retFound := rfl
@[simp] theorem State.setCursor_retNext (c : Cursor) : (s.setCursor c).retNext = s.retNext := rfl
@[simp] theorem State.setCursor_retDur (c : Cursor) : (s.setCursor c).retDur = s.retDur := rfl
@[simp] theorem State.setCursor_draws (c : Cursor) : (s.setCursor c).draws = s.draws := rfl

/-! ### State.mdirWord -/

@[simp] theorem State.mdirWord_cfg (a : Addr) (n : BitVec 8) : (s.mdirWord a n).cfg = s.cfg := rfl
@[simp] theorem State.mdirWord_phase (a : Addr) (n : BitVec 8) : (s.mdirWord a n).phase = s.phase := rfl
@[simp] theorem State.mdirWord_frameIdx (a : Addr) (n : BitVec 8) : (s.mdirWord a n).frameIdx = s.frameIdx := rfl
@[simp] theorem State.mdirWord_videoDl (a : Addr) (n : BitVec 8) : (s.mdirWord a n).videoDl = s.videoDl := rfl
@[simp] theorem State.mdirWord_audioDl (a : Addr) (n : BitVec 8) : (s.mdirWord a n).audioDl = s.audioDl := rfl
@[simp] theorem State.mdirWord_muted (a : Addr) (n : BitVec 8) : (s.mdirWord a n).muted = s.muted := rfl
@[simp] theorem State.mdirWord_seqPos (a : Addr) (n : BitVec 8) : (s.mdirWord a n).seqPos = s.seqPos := rfl
@[simp] theorem State.mdirWord_noteIdx (a : Addr) (n : BitVec 8) : (s.mdirWord a n).noteIdx = s.noteIdx := rfl
@[simp] theorem State.mdirWord_now (a : Addr) (n : BitVec 8) : (s.mdirWord a n).now = s.now := rfl
@[simp] theorem State.mdirWord_lastSample (a : Addr) (n : BitVec 8) : (s.mdirWord a n).lastSample = s.lastSample := rfl
@[simp] theorem State.mdirWord_pal (a : Addr) (n : BitVec 8) : (s.mdirWord a n).pal = s.pal := rfl
@[simp] theorem State.mdirWord_line (a : Addr) (n : BitVec 8) : (s.mdirWord a n).line = s.line := rfl
@[simp] theorem State.mdirWord_row (a : Addr) (n : BitVec 8) : (s.mdirWord a n).row = s.row := rfl
@[simp] theorem State.mdirWord_rp (a : Addr) (n : BitVec 8) : (s.mdirWord a n).rp = s.rp := rfl
@[simp] theorem State.mdirWord_rem (a : Addr) (n : BitVec 8) : (s.mdirWord a n).rem = s.rem := rfl
@[simp] theorem State.mdirWord_x (a : Addr) (n : BitVec 8) : (s.mdirWord a n).x = s.x := rfl
@[simp] theorem State.mdirWord_curP (a : Addr) (n : BitVec 8) : (s.mdirWord a n).curP = s.curP := rfl
@[simp] theorem State.mdirWord_curL (a : Addr) (n : BitVec 8) : (s.mdirWord a n).curL = s.curL := rfl
@[simp] theorem State.mdirWord_status (a : Addr) (n : BitVec 8) : (s.mdirWord a n).status = s.status := rfl
@[simp] theorem State.mdirWord_rearm (a : Addr) (n : BitVec 8) : (s.mdirWord a n).rearm = s.rearm := rfl
@[simp] theorem State.mdirWord_dispValid (a : Addr) (n : BitVec 8) : (s.mdirWord a n).dispValid = s.dispValid := rfl
@[simp] theorem State.mdirWord_dispCmd (a : Addr) (n : BitVec 8) : (s.mdirWord a n).dispCmd = s.dispCmd := rfl
@[simp] theorem State.mdirWord_dispData (a : Addr) (n : BitVec 8) : (s.mdirWord a n).dispData = s.dispData := rfl
@[simp] theorem State.mdirWord_sndValid (a : Addr) (n : BitVec 8) : (s.mdirWord a n).sndValid = s.sndValid := rfl
@[simp] theorem State.mdirWord_sndVoice (a : Addr) (n : BitVec 8) : (s.mdirWord a n).sndVoice = s.sndVoice := rfl
@[simp] theorem State.mdirWord_sndFreq (a : Addr) (n : BitVec 8) : (s.mdirWord a n).sndFreq = s.sndFreq := rfl
@[simp] theorem State.mdirWord_romReq (a : Addr) (n : BitVec 8) : (s.mdirWord a n).romReq = s.romReq := rfl
@[simp] theorem State.mdirWord_romAddr (a : Addr) (n : BitVec 8) : (s.mdirWord a n).romAddr = s.romAddr := rfl
@[simp] theorem State.mdirWord_rom (a : Addr) (n : BitVec 8) : (s.mdirWord a n).rom = s.rom := rfl
@[simp] theorem State.mdirWord_pins (a : Addr) (n : BitVec 8) : (s.mdirWord a n).pins = s.pins := rfl
@[simp] theorem State.mdirWord_stimulus (a : Addr) (n : BitVec 8) : (s.mdirWord a n).stimulus = s.stimulus := rfl
@[simp] theorem State.mdirWord_tick (a : Addr) (n : BitVec 8) : (s.mdirWord a n).tick = s.tick := rfl
@[simp] theorem State.mdirWord_trace (a : Addr) (n : BitVec 8) : (s.mdirWord a n).trace = s.trace := rfl
@[simp] theorem State.mdirWord_todo (a : Addr) (n : BitVec 8) : (s.mdirWord a n).todo = s.todo := rfl
@[simp] theorem State.mdirWord_mreq (a : Addr) (n : BitVec 8) : (s.mdirWord a n).mreq = s.mreq := rfl
@[simp] theorem State.mdirWord_ureq (a : Addr) (n : BitVec 8) : (s.mdirWord a n).ureq = s.ureq := rfl
@[simp] theorem State.mdirWord_palIdx (a : Addr) (n : BitVec 8) : (s.mdirWord a n).palIdx = s.palIdx := rfl
@[simp] theorem State.mdirWord_retPassed (a : Addr) (n : BitVec 8) : (s.mdirWord a n).retPassed = s.retPassed := rfl
@[simp] theorem State.mdirWord_retMeas (a : Addr) (n : BitVec 8) : (s.mdirWord a n).retMeas = ⟨a, n⟩ := rfl
@[simp] theorem State.mdirWord_retFound (a : Addr) (n : BitVec 8) : (s.mdirWord a n).retFound = s.retFound := rfl
@[simp] theorem State.mdirWord_retNext (a : Addr) (n : BitVec 8) : (s.mdirWord a n).retNext = s.retNext := rfl
@[simp] theorem State.mdirWord_retDur (a : Addr) (n : BitVec 8) : (s.mdirWord a n).retDur = s.retDur := rfl
@[simp] theorem State.mdirWord_draws (a : Addr) (n : BitVec 8) : (s.mdirWord a n).draws = s.draws := rfl

/-! ### State.fdirWord -/

@[simp] theorem State.fdirWord_cfg (a n : BitVec 32) : (s.fdirWord a n).cfg = s.cfg := rfl
@[simp] theorem State.fdirWord_phase (a n : BitVec 32) : (s.fdirWord a n).phase = s.phase := rfl
@[simp] theorem State.fdirWord_frameIdx (a n : BitVec 32) : (s.fdirWord a n).frameIdx = s.frameIdx := rfl
@[simp] theorem State.fdirWord_videoDl (a n : BitVec 32) : (s.fdirWord a n).videoDl = s.videoDl := rfl
@[simp] theorem State.fdirWord_audioDl (a n : BitVec 32) : (s.fdirWord a n).audioDl = s.audioDl := rfl
@[simp] theorem State.fdirWord_muted (a n : BitVec 32) : (s.fdirWord a n).muted = s.muted := rfl
@[simp] theorem State.fdirWord_seqPos (a n : BitVec 32) : (s.fdirWord a n).seqPos = s.seqPos := rfl
@[simp] theorem State.fdirWord_noteIdx (a n : BitVec 32) : (s.fdirWord a n).noteIdx = s.noteIdx := rfl
@[simp] theorem State.fdirWord_now (a n : BitVec 32) : (s.fdirWord a n).now = s.now := rfl
@[simp] theorem State.fdirWord_lastSample (a n : BitVec 32) : (s.fdirWord a n).lastSample = s.lastSample := rfl
@[simp] theorem State.fdirWord_pal (a n : BitVec 32) : (s.fdirWord a n).pal = s.pal := rfl
@[simp] theorem State.fdirWord_line (a n : BitVec 32) : (s.fdirWord a n).line = s.line := rfl
@[simp] theorem State.fdirWord_row (a n : BitVec 32) : (s.fdirWord a n).row = s.row := rfl
@[simp] theorem State.fdirWord_rp (a n : BitVec 32) : (s.fdirWord a n).rp = a := rfl
@[simp] theorem State.fdirWord_rem (a n : BitVec 32) : (s.fdirWord a n).rem = n := rfl
@[simp] theorem State.fdirWord_x (a n : BitVec 32) : (s.fdirWord a n).x = s.x := rfl
@[simp] theorem State.fdirWord_curP (a n : BitVec 32) : (s.fdirWord a n).curP = s.curP := rfl
@[simp] theorem State.fdirWord_curL (a n : BitVec 32) : (s.fdirWord a n).curL = s.curL := rfl
@[simp] theorem State.fdirWord_status (a n : BitVec 32) : (s.fdirWord a n).status = s.status := rfl
@[simp] theorem State.fdirWord_rearm (a n : BitVec 32) : (s.fdirWord a n).rearm = s.rearm := rfl
@[simp] theorem State.fdirWord_dispValid (a n : BitVec 32) : (s.fdirWord a n).dispValid = s.dispValid := rfl
@[simp] theorem State.fdirWord_dispCmd (a n : BitVec 32) : (s.fdirWord a n).dispCmd = s.dispCmd := rfl
@[simp] theorem State.fdirWord_dispData (a n : BitVec 32) : (s.fdirWord a n).dispData = s.dispData := rfl
@[simp] theorem State.fdirWord_sndValid (a n : BitVec 32) : (s.fdirWord a n).sndValid = s.sndValid := rfl
@[simp] theorem State.fdirWord_sndVoice (a n : BitVec 32) : (s.fdirWord a n).sndVoice = s.sndVoice := rfl
@[simp] theorem State.fdirWord_sndFreq (a n : BitVec 32) : (s.fdirWord a n).sndFreq = s.sndFreq := rfl
@[simp] theorem State.fdirWord_romReq (a n : BitVec 32) : (s.fdirWord a n).romReq = s.romReq := rfl
@[simp] theorem State.fdirWord_romAddr (a n : BitVec 32) : (s.fdirWord a n).romAddr = s.romAddr := rfl
@[simp] theorem State.fdirWord_rom (a n : BitVec 32) : (s.fdirWord a n).rom = s.rom := rfl
@[simp] theorem State.fdirWord_pins (a n : BitVec 32) : (s.fdirWord a n).pins = s.pins := rfl
@[simp] theorem State.fdirWord_stimulus (a n : BitVec 32) : (s.fdirWord a n).stimulus = s.stimulus := rfl
@[simp] theorem State.fdirWord_tick (a n : BitVec 32) : (s.fdirWord a n).tick = s.tick := rfl
@[simp] theorem State.fdirWord_trace (a n : BitVec 32) : (s.fdirWord a n).trace = s.trace := rfl
@[simp] theorem State.fdirWord_todo (a n : BitVec 32) : (s.fdirWord a n).todo = s.todo := rfl
@[simp] theorem State.fdirWord_mreq (a n : BitVec 32) : (s.fdirWord a n).mreq = s.mreq := rfl
@[simp] theorem State.fdirWord_ureq (a n : BitVec 32) : (s.fdirWord a n).ureq = s.ureq := rfl
@[simp] theorem State.fdirWord_palIdx (a n : BitVec 32) : (s.fdirWord a n).palIdx = s.palIdx := rfl
@[simp] theorem State.fdirWord_retPassed (a n : BitVec 32) : (s.fdirWord a n).retPassed = s.retPassed := rfl
@[simp] theorem State.fdirWord_retMeas (a n : BitVec 32) : (s.fdirWord a n).retMeas = s.retMeas := rfl
@[simp] theorem State.fdirWord_retFound (a n : BitVec 32) : (s.fdirWord a n).retFound = s.retFound := rfl
@[simp] theorem State.fdirWord_retNext (a n : BitVec 32) : (s.fdirWord a n).retNext = s.retNext := rfl
@[simp] theorem State.fdirWord_retDur (a n : BitVec 32) : (s.fdirWord a n).retDur = s.retDur := rfl
@[simp] theorem State.fdirWord_draws (a n : BitVec 32) : (s.fdirWord a n).draws = s.draws := rfl

/-! ### State.durWord -/

@[simp] theorem State.durWord_cfg (t : BitVec 16) : (s.durWord t).cfg = s.cfg := rfl
@[simp] theorem State.durWord_phase (t : BitVec 16) : (s.durWord t).phase = s.phase := rfl
@[simp] theorem State.durWord_frameIdx (t : BitVec 16) : (s.durWord t).frameIdx = s.frameIdx := rfl
@[simp] theorem State.durWord_videoDl (t : BitVec 16) : (s.durWord t).videoDl = s.videoDl := rfl
@[simp] theorem State.durWord_audioDl (t : BitVec 16) : (s.durWord t).audioDl = s.audioDl := rfl
@[simp] theorem State.durWord_muted (t : BitVec 16) : (s.durWord t).muted = s.muted := rfl
@[simp] theorem State.durWord_seqPos (t : BitVec 16) : (s.durWord t).seqPos = s.seqPos := rfl
@[simp] theorem State.durWord_noteIdx (t : BitVec 16) : (s.durWord t).noteIdx = s.noteIdx := rfl
@[simp] theorem State.durWord_now (t : BitVec 16) : (s.durWord t).now = s.now := rfl
@[simp] theorem State.durWord_lastSample (t : BitVec 16) : (s.durWord t).lastSample = s.lastSample := rfl
@[simp] theorem State.durWord_pal (t : BitVec 16) : (s.durWord t).pal = s.pal := rfl
@[simp] theorem State.durWord_line (t : BitVec 16) : (s.durWord t).line = s.line := rfl
@[simp] theorem State.durWord_row (t : BitVec 16) : (s.durWord t).row = s.row := rfl
@[simp] theorem State.durWord_rp (t : BitVec 16) : (s.durWord t).rp = s.rp := rfl
@[simp] theorem State.durWord_rem (t : BitVec 16) : (s.durWord t).rem = s.rem := rfl
@[simp] theorem State.durWord_x (t : BitVec 16) : (s.durWord t).x = s.x := rfl
@[simp] theorem State.durWord_curP (t : BitVec 16) : (s.durWord t).curP = s.curP := rfl
@[simp] theorem State.durWord_curL (t : BitVec 16) : (s.durWord t).curL = s.curL := rfl
@[simp] theorem State.durWord_status (t : BitVec 16) : (s.durWord t).status = s.status := rfl
@[simp] theorem State.durWord_rearm (t : BitVec 16) : (s.durWord t).rearm = s.rearm := rfl
@[simp] theorem State.durWord_dispValid (t : BitVec 16) : (s.durWord t).dispValid = s.dispValid := rfl
@[simp] theorem State.durWord_dispCmd (t : BitVec 16) : (s.durWord t).dispCmd = s.dispCmd := rfl
@[simp] theorem State.durWord_dispData (t : BitVec 16) : (s.durWord t).dispData = s.dispData := rfl
@[simp] theorem State.durWord_sndValid (t : BitVec 16) : (s.durWord t).sndValid = s.sndValid := rfl
@[simp] theorem State.durWord_sndVoice (t : BitVec 16) : (s.durWord t).sndVoice = s.sndVoice := rfl
@[simp] theorem State.durWord_sndFreq (t : BitVec 16) : (s.durWord t).sndFreq = s.sndFreq := rfl
@[simp] theorem State.durWord_romReq (t : BitVec 16) : (s.durWord t).romReq = s.romReq := rfl
@[simp] theorem State.durWord_romAddr (t : BitVec 16) : (s.durWord t).romAddr = s.romAddr := rfl
@[simp] theorem State.durWord_rom (t : BitVec 16) : (s.durWord t).rom = s.rom := rfl
@[simp] theorem State.durWord_pins (t : BitVec 16) : (s.durWord t).pins = s.pins := rfl
@[simp] theorem State.durWord_stimulus (t : BitVec 16) : (s.durWord t).stimulus = s.stimulus := rfl
@[simp] theorem State.durWord_tick (t : BitVec 16) : (s.durWord t).tick = s.tick := rfl
@[simp] theorem State.durWord_trace (t : BitVec 16) : (s.durWord t).trace = s.trace := rfl
@[simp] theorem State.durWord_todo (t : BitVec 16) : (s.durWord t).todo = s.todo := rfl
@[simp] theorem State.durWord_mreq (t : BitVec 16) : (s.durWord t).mreq = s.mreq := rfl
@[simp] theorem State.durWord_ureq (t : BitVec 16) : (s.durWord t).ureq = s.ureq := rfl
@[simp] theorem State.durWord_palIdx (t : BitVec 16) : (s.durWord t).palIdx = s.palIdx := rfl
@[simp] theorem State.durWord_retPassed (t : BitVec 16) : (s.durWord t).retPassed = s.retPassed := rfl
@[simp] theorem State.durWord_retMeas (t : BitVec 16) : (s.durWord t).retMeas = s.retMeas := rfl
@[simp] theorem State.durWord_retFound (t : BitVec 16) : (s.durWord t).retFound = s.retFound := rfl
@[simp] theorem State.durWord_retNext (t : BitVec 16) : (s.durWord t).retNext = s.retNext := rfl
@[simp] theorem State.durWord_retDur (t : BitVec 16) : (s.durWord t).retDur = t.toNat := rfl
@[simp] theorem State.durWord_draws (t : BitVec 16) : (s.durWord t).draws = s.draws := rfl

/-! ### State.passed -/

@[simp] theorem State.passed_cfg (n d : Nat) : (s.passed n d).cfg = s.cfg := rfl
@[simp] theorem State.passed_phase (n d : Nat) : (s.passed n d).phase = s.phase := rfl
@[simp] theorem State.passed_frameIdx (n d : Nat) : (s.passed n d).frameIdx = s.frameIdx := rfl
@[simp] theorem State.passed_videoDl (n d : Nat) : (s.passed n d).videoDl = s.videoDl := rfl
@[simp] theorem State.passed_audioDl (n d : Nat) : (s.passed n d).audioDl = s.audioDl := rfl
@[simp] theorem State.passed_muted (n d : Nat) : (s.passed n d).muted = s.muted := rfl
@[simp] theorem State.passed_seqPos (n d : Nat) : (s.passed n d).seqPos = s.seqPos := rfl
@[simp] theorem State.passed_noteIdx (n d : Nat) : (s.passed n d).noteIdx = s.noteIdx := rfl
@[simp] theorem State.passed_now (n d : Nat) : (s.passed n d).now = s.now := rfl
@[simp] theorem State.passed_lastSample (n d : Nat) : (s.passed n d).lastSample = s.lastSample := rfl
@[simp] theorem State.passed_pal (n d : Nat) : (s.passed n d).pal = s.pal := rfl
@[simp] theorem State.passed_line (n d : Nat) : (s.passed n d).line = s.line := rfl
@[simp] theorem State.passed_row (n d : Nat) : (s.passed n d).row = s.row := rfl
@[simp] theorem State.passed_rp (n d : Nat) : (s.passed n d).rp = s.rp := rfl
@[simp] theorem State.passed_rem (n d : Nat) : (s.passed n d).rem = s.rem := rfl
@[simp] theorem State.passed_x (n d : Nat) : (s.passed n d).x = s.x := rfl
@[simp] theorem State.passed_curP (n d : Nat) : (s.passed n d).curP = s.curP := rfl
@[simp] theorem State.passed_curL (n d : Nat) : (s.passed n d).curL = s.curL := rfl
@[simp] theorem State.passed_status (n d : Nat) : (s.passed n d).status = s.status := rfl
@[simp] theorem State.passed_rearm (n d : Nat) : (s.passed n d).rearm = s.rearm := rfl
@[simp] theorem State.passed_dispValid (n d : Nat) : (s.passed n d).dispValid = s.dispValid := rfl
@[simp] theorem State.passed_dispCmd (n d : Nat) : (s.passed n d).dispCmd = s.dispCmd := rfl
@[simp] theorem State.passed_dispData (n d : Nat) : (s.passed n d).dispData = s.dispData := rfl
@[simp] theorem State.passed_sndValid (n d : Nat) : (s.passed n d).sndValid = s.sndValid := rfl
@[simp] theorem State.passed_sndVoice (n d : Nat) : (s.passed n d).sndVoice = s.sndVoice := rfl
@[simp] theorem State.passed_sndFreq (n d : Nat) : (s.passed n d).sndFreq = s.sndFreq := rfl
@[simp] theorem State.passed_romReq (n d : Nat) : (s.passed n d).romReq = s.romReq := rfl
@[simp] theorem State.passed_romAddr (n d : Nat) : (s.passed n d).romAddr = s.romAddr := rfl
@[simp] theorem State.passed_rom (n d : Nat) : (s.passed n d).rom = s.rom := rfl
@[simp] theorem State.passed_pins (n d : Nat) : (s.passed n d).pins = s.pins := rfl
@[simp] theorem State.passed_stimulus (n d : Nat) : (s.passed n d).stimulus = s.stimulus := rfl
@[simp] theorem State.passed_tick (n d : Nat) : (s.passed n d).tick = s.tick := rfl
@[simp] theorem State.passed_trace (n d : Nat) : (s.passed n d).trace = s.trace := rfl
@[simp] theorem State.passed_todo (n d : Nat) : (s.passed n d).todo = s.todo := rfl
@[simp] theorem State.passed_mreq (n d : Nat) : (s.passed n d).mreq = s.mreq := rfl
@[simp] theorem State.passed_ureq (n d : Nat) : (s.passed n d).ureq = s.ureq := rfl
@[simp] theorem State.passed_palIdx (n d : Nat) : (s.passed n d).palIdx = s.palIdx := rfl
@[simp] theorem State.passed_retPassed (n d : Nat) : (s.passed n d).retPassed = passedTest s.cfg n d := rfl
@[simp] theorem State.passed_retMeas (n d : Nat) : (s.passed n d).retMeas = s.retMeas := rfl
@[simp] theorem State.passed_retFound (n d : Nat) : (s.passed n d).retFound = s.retFound := rfl
@[simp] theorem State.passed_retNext (n d : Nat) : (s.passed n d).retNext = s.retNext := rfl
@[simp] theorem State.passed_retDur (n d : Nat) : (s.passed n d).retDur = s.retDur := rfl
@[simp] theorem State.passed_draws (n d : Nat) : (s.passed n d).draws = s.draws := rfl

/-! ### State.palWord -/

@[simp] theorem State.palWord_cfg (r g b : BitVec 8) : (s.palWord r g b).cfg = s.cfg := rfl
@[simp] theorem State.palWord_phase (r g b : BitVec 8) : (s.palWord r g b).phase = s.phase := rfl
@[simp] theorem State.palWord_frameIdx (r g b : BitVec 8) : (s.palWord r g b).frameIdx = s.frameIdx := rfl
@[simp] theorem State.palWord_videoDl (r g b : BitVec 8) : (s.palWord r g b).videoDl = s.videoDl := rfl
@[simp] theorem State.palWord_audioDl (r g b : BitVec 8) : (s.palWord r g b).audioDl = s.audioDl := rfl
@[simp] theorem State.palWord_muted (r g b : BitVec 8) : (s.palWord r g b).muted = s.muted := rfl
@[simp] theorem State.palWord_seqPos (r g b : BitVec 8) : (s.palWord r g b).seqPos = s.seqPos := rfl
@[simp] theorem State.palWord_noteIdx (r g b : BitVec 8) : (s.palWord r g b).noteIdx = s.noteIdx := rfl
@[simp] theorem State.palWord_now (r g b : BitVec 8) : (s.palWord r g b).now = s.now := rfl
@[simp] theorem State.palWord_lastSample (r g b : BitVec 8) : (s.palWord r g b).lastSample = s.lastSample := rfl
@[simp] theorem State.palWord_pal (r g b : BitVec 8) : (s.palWord r g b).pal = s.pal.set s.palIdx.toNat (colourOf r g b) s.palIdx.isLt := rfl
@[simp] theorem State.palWord_line (r g b : BitVec 8) : (s.palWord r g b).line = s.line := rfl
@[simp] theorem State.palWord_row (r g b : BitVec 8) : (s.palWord r g b).row = s.row := rfl
@[simp] theorem State.palWord_rp (r g b : BitVec 8) : (s.palWord r g b).rp = s.rp := rfl
@[simp] theorem State.palWord_rem (r g b : BitVec 8) : (s.palWord r g b).rem = s.rem := rfl
@[simp] theorem State.palWord_x (r g b : BitVec 8) : (s.palWord r g b).x = s.x := rfl
@[simp] theorem State.palWord_curP (r g b : BitVec 8) : (s.palWord r g b).curP = s.curP := rfl
@[simp] theorem State.palWord_curL (r g b : BitVec 8) : (s.palWord r g b).curL = s.curL := rfl
@[simp] theorem State.palWord_status (r g b : BitVec 8) : (s.palWord r g b).status = s.status := rfl
@[simp] theorem State.palWord_rearm (r g b : BitVec 8) : (s.palWord r g b).rearm = s.rearm := rfl
@[simp] theorem State.palWord_dispValid (r g b : BitVec 8) : (s.palWord r g b).dispValid = s.dispValid := rfl
@[simp] theorem State.palWord_dispCmd (r g b : BitVec 8) : (s.palWord r g b).dispCmd = s.dispCmd := rfl
@[simp] theorem State.palWord_dispData (r g b : BitVec 8) : (s.palWord r g b).dispData = s.dispData := rfl
@[simp] theorem State.palWord_sndValid (r g b : BitVec 8) : (s.palWord r g b).sndValid = s.sndValid := rfl
@[simp] theorem State.palWord_sndVoice (r g b : BitVec 8) : (s.palWord r g b).sndVoice = s.sndVoice := rfl
@[simp] theorem State.palWord_sndFreq (r g b : BitVec 8) : (s.palWord r g b).sndFreq = s.sndFreq := rfl
@[simp] theorem State.palWord_romReq (r g b : BitVec 8) : (s.palWord r g b).romReq = s.romReq := rfl
@[simp] theorem State.palWord_romAddr (r g b : BitVec 8) : (s.palWord r g b).romAddr = s.romAddr := rfl
@[simp] theorem State.palWord_rom (r g b : BitVec 8) : (s.palWord r g b).rom = s.rom := rfl
@[simp] theorem State.palWord_pins (r g b : BitVec 8) : (s.palWord r g b).pins = s.pins := rfl
@[simp] theorem State.palWord_stimulus (r g b : BitVec 8) : (s.palWord r g b).stimulus = s.stimulus := rfl
@[simp] theorem State.palWord_tick (r g b : BitVec 8) : (s.palWord r g b).tick = s.tick := rfl
@[simp] theorem State.palWord_trace (r g b : BitVec 8) : (s.palWord r g b).trace = s.trace := rfl
@[simp] theorem State.palWord_todo (r g b : BitVec 8) : (s.palWord r g b).todo = s.todo := rfl
@[simp] theorem State.palWord_mreq (r g b : BitVec 8) : (s.palWord r g b).mreq = s.mreq := rfl
@[simp] theorem State.palWord_ureq (r g b : BitVec 8) : (s.palWord r g b).ureq = s.ureq := rfl
@[simp] theorem State.palWord_palIdx (r g b : BitVec 8) : (s.palWord r g b).palIdx = s.palIdx + 1 := rfl
@[simp] theorem State.palWord_retPassed (r g b : BitVec 8) : (s.palWord r g b).retPassed = s.retPassed := rfl
@[simp] theorem State.palWord_retMeas (r g b : BitVec 8) : (s.palWord r g b).retMeas = s.retMeas := rfl
@[simp] theorem State.palWord_retFound (r g b : BitVec 8) : (s.palWord r g b).retFound = s.retFound := rfl
@[simp] theorem State.palWord_retNext (r g b : BitVec 8) : (s.palWord r g b).retNext = s.retNext := rfl
@[simp] theorem State.palWord_retDur (r g b : BitVec 8) : (s.palWord r g b).retDur = s.retDur := rfl
@[simp] theorem State.palWord_draws (r g b : BitVec 8) : (s.palWord r g b).draws = s.draws := rfl

end Sys2Proof.Machine
end

