-- ==== Sys2Proof/Laws/Ops.lean ====
section
/-! SUPPORT. What each shared operation can do, said once: ROM reads, flags, the ports, waiting and reset. -/

namespace Sys2Proof.Machine

open Sys2Proof.Safety

/-! ### The sticky status -/

/-- `b` has every bit of `a`, and the reserved bit 7 as `a` has it (R33). -/
def StatusGrows (a b : BitVec 8) : Prop := a &&& b = a ∧ b.getLsbD 7 = a.getLsbD 7

theorem StatusGrows.rfl {a : BitVec 8} : StatusGrows a a := ⟨BitVec.and_self, Eq.refl _⟩

theorem StatusGrows.trans {a b c : BitVec 8} (h : StatusGrows a b) (k : StatusGrows b c) : StatusGrows a c := by
  refine ⟨?_, k.2.trans h.2⟩
  have h1 := h.1
  rw [← h1, BitVec.and_assoc, k.1]

theorem statusGrows_flag (a : BitVec 8) (f : Flag) : StatusGrows a (a ||| flagMask f) := by
  refine ⟨?_, ?_⟩
  · ext i hi
    simp only [BitVec.getElem_and, BitVec.getElem_or]
    cases a[i] <;> simp
  · cases f <;> simp [flagMask, flagBit]

/-- A flag once recorded is set. -/
theorem flagged_flag (s : State) (f : Flag) : (s.flag f).flagged f = true := by
  cases f <;> simp [State.flagged, flagMask, flagBit]

theorem flagIf_effect (s : State) (b : Bool) (f : Flag) :
    s.flagIf b f = { s with status := if b then s.status ||| flagMask f else s.status } := by
  cases b <;> rfl

theorem flagIf_grows (a : BitVec 8) (b : Bool) (f : Flag) :
    StatusGrows a (if b then a ||| flagMask f else a) := by
  cases b
  · exact StatusGrows.rfl
  · exact statusGrows_flag a f

/-! ### ROM reads -/

/-- A byte read changes at most `STATUS` and the free-value counter (R53). -/
theorem romByte_effect (s : State) (a : Nat) :
    ∃ st d, (s.romByte a).2 = { s with status := st, draws := d } ∧ StatusGrows s.status st := by
  unfold State.romByte
  split
  · exact ⟨s.status, s.draws, rfl, .rfl⟩
  · exact ⟨_, _, rfl, statusGrows_flag _ _⟩

/-- A read changes at most `STATUS` and the free-value counter (R53). -/
theorem memRead_effect (n a : Nat) (s : State) :
    ∃ st d, (s.memRead a n).2 = { s with status := st, draws := d } ∧ StatusGrows s.status st := by
  induction n generalizing a s with
  | zero => exact ⟨s.status, s.draws, rfl, .rfl⟩
  | succ n ih =>
    obtain ⟨st, d, h, g⟩ := romByte_effect s a
    obtain ⟨st', d', h', g'⟩ := ih (a + 1) (s.romByte a).2
    refine ⟨st', d', ?_, ?_⟩
    · show (State.memRead (s.romByte a).2 (a + 1) n).2 = _
      rw [h', h]
    · rw [h] at g'
      exact g.trans g'

/-- A read as a pair: some value, and the state with at most `STATUS` and the free-value counter changed (R53). -/
theorem memRead_pair (n a : Nat) (s : State) :
    ∃ v st d, s.memRead a n = (v, { s with status := st, draws := d }) ∧ StatusGrows s.status st := by
  obtain ⟨st, d, h, g⟩ := memRead_effect n a s
  exact ⟨(s.memRead a n).1, st, d, Prod.ext rfl h, g⟩

theorem romByte_inRom {s : State} {a : Nat} (h : a % 2 ^ 32 < s.cfg.romSize) :
    s.romByte a = (Memory.read s.rom (a % 2 ^ 32), s) := if_pos h

theorem inRom_succ {s : State} {a n : Nat} :
    inRom s a (n + 1) = true ↔ a % 2 ^ 32 < s.cfg.romSize ∧ inRom s (a + 1) n = true := by
  simp only [inRom, List.range_succ_eq_map, List.all_cons, List.all_map, Bool.and_eq_true, decide_eq_true_eq,
    Nat.add_zero, List.all_eq_true, Function.comp_apply, Nat.succ_eq_add_one]
  constructor
  · rintro ⟨h, k⟩
    exact ⟨h, fun x hx => by have := k x hx; rwa [show a + 1 + x = a + (x + 1) by omega]⟩
  · rintro ⟨h, k⟩
    exact ⟨h, fun x hx => by have := k x hx; rwa [show a + 1 + x = a + (x + 1) by omega] at this⟩

theorem romVal_succ (s : State) (a n : Nat) :
    romVal s a (n + 1) = (Memory.read s.rom (a % 2 ^ 32)).toNat + 256 * romVal s (a + 1) n := by
  simp only [romVal, List.range_succ_eq_map, List.map_cons, List.sum_cons, List.map_map, Nat.add_zero, Nat.mul_zero,
    Nat.pow_zero, Nat.mul_one, ← List.sum_map_mul_left]
  congr 2
  apply List.map_congr_left
  intro k _
  simp only [Function.comp_apply, Nat.succ_eq_add_one]
  rw [show a + 1 + k = a + (k + 1) by omega, show 8 * (k + 1) = 8 * k + 8 by omega, Nat.pow_add]
  ring

/-- Inside the ROM a read is the pure little-endian value, and changes nothing (R52). -/
theorem memRead_inRom {n a : Nat} {s : State} (h : inRom s a n = true) : s.memRead a n = (romVal s a n, s) := by
  induction n generalizing a s with
  | zero => rfl
  | succ n ih =>
    rw [inRom_succ] at h
    simp only [State.memRead, romByte_inRom h.1, ih h.2, romVal_succ]

theorem romVal_lt (s : State) (a n : Nat) : romVal s a n < 256 ^ n := by
  induction n generalizing a with
  | zero => simp [romVal]
  | succ n ih =>
    rw [romVal_succ, Nat.pow_succ]
    have h1 := ih (a + 1)
    have h2 := (Memory.read s.rom (a % 2 ^ 32)).isLt
    omega

/-! ### Waiting and the ports -/

/-- An operation that reads the ROM either goes on or waits with nothing but the request changed (R206). -/
theorem withRom_next {s go s' : State} {i : Instr} (h : s.withRom i go = .next s') :
    (s.pins.romAck = true ∧ s' = go) ∨ (s.pins.romAck = false ∧ s' = s.romWait i) := by
  unfold State.withRom at h
  split at h
  next hack => cases h; exact .inl ⟨hack, rfl⟩
  next hack => cases h; exact .inr ⟨by simpa using hack, rfl⟩

theorem withRom_ack {s : State} (h : s.pins.romAck = true) (i : Instr) (go : State) :
    s.withRom i go = .next go := if_pos h

theorem withRom_noAck {s : State} (h : s.pins.romAck = false) (i : Instr) (go : State) :
    s.withRom i go = .next (s.romWait i) := if_neg (by simp [h])

/-- An operation that samples the clock answers a next state only under R216, and then it is its effect. -/
theorem withClock_next {s go s' : State} (h : s.withClock go = .next s') : s.clockKept = true ∧ s' = go := by
  unfold State.withClock at h
  split at h
  next hc => cases h; exact ⟨hc, rfl⟩
  next hc => cases h

theorem withClock_kept {s : State} (h : s.clockKept = true) (go : State) : s.withClock go = .next go := if_pos h

theorem withClock_broken {s : State} (h : s.clockKept = false) (go : State) :
    s.withClock go = .refused .clockAssumption := if_neg (by simp [h])

theorem offerDisp_ready {s : State} (h : s.pins.dispReady = true) (i : Instr) (c : BitVec 2) (d : BitVec 64) :
    s.offerDisp i c d =
      { s with dispValid := false, dispCmd := c, dispData := d, trace := s.trace ++ [.disp c d] } := if_pos h

theorem offerDisp_busy {s : State} (h : s.pins.dispReady = false) (i : Instr) (c : BitVec 2) (d : BitVec 64) :
    s.offerDisp i c d =
      { s with dispValid := true, dispCmd := c, dispData := d, todo := .op i :: s.todo } := if_neg (by simp [h])

theorem offerSnd_ready {s : State} (h : s.pins.sndReady = true) (i : Instr) (v : BitVec 2) (f : BitVec 8) :
    s.offerSnd i v f =
      { s with sndValid := false, sndVoice := v, sndFreq := f, trace := s.trace ++ [.snd v f] } := if_pos h

theorem offerSnd_busy {s : State} (h : s.pins.sndReady = false) (i : Instr) (v : BitVec 2) (f : BitVec 8) :
    s.offerSnd i v f =
      { s with sndValid := true, sndVoice := v, sndFreq := f, todo := .op i :: s.todo } := if_neg (by simp [h])

/-- Offering on the display port: the outputs, and either the event or the sub-step again. -/
theorem offerDisp_effect (s : State) (i : Instr) (c : BitVec 2) (d : BitVec 64) :
    ∃ v tr td, s.offerDisp i c d = { s with dispValid := v, dispCmd := c, dispData := d, trace := tr, todo := td } ∧
      ((v = false ∧ tr = s.trace ++ [.disp c d] ∧ td = s.todo) ∨ (v = true ∧ tr = s.trace ∧ td = .op i :: s.todo)) := by
  cases h : s.pins.dispReady
  · exact ⟨_, _, _, offerDisp_busy h i c d, .inr ⟨rfl, rfl, rfl⟩⟩
  · exact ⟨_, _, _, offerDisp_ready h i c d, .inl ⟨rfl, rfl, rfl⟩⟩

/-- Offering on the sound port: the outputs, and either the event or the sub-step again. -/
theorem offerSnd_effect (s : State) (i : Instr) (c : BitVec 2) (d : BitVec 8) :
    ∃ v tr td, s.offerSnd i c d = { s with sndValid := v, sndVoice := c, sndFreq := d, trace := tr, todo := td } ∧
      ((v = false ∧ tr = s.trace ++ [.snd c d] ∧ td = s.todo) ∨ (v = true ∧ tr = s.trace ∧ td = .op i :: s.todo)) := by
  cases h : s.pins.sndReady
  · exact ⟨_, _, _, offerSnd_busy h i c d, .inr ⟨rfl, rfl, rfl⟩⟩
  · exact ⟨_, _, _, offerSnd_ready h i c d, .inl ⟨rfl, rfl, rfl⟩⟩

end Sys2Proof.Machine
end

