-- ==== Sys2Proof/Laws/Audio.lean ====
section
/-! SUPPORT. What the audio sequencer's operations can do (41_audio.md). -/

namespace Sys2Proof.Machine

open Sys2Proof.Safety

/-- MEAS changes its result, `STATUS` and the free-value counter (R141). -/
theorem meas_effect (p : Nat) (s : State) :
    ∃ m st d, s.meas p = { s with retMeas := m, status := st, draws := d } ∧ StatusGrows s.status st := by
  obtain ⟨st, d, h, g⟩ := memRead_effect 1 (seqAddr s.cfg p) s
  unfold State.meas State.seqWord
  simp only [h]
  split
  · exact ⟨_, _, _, rfl, g.trans (statusGrows_flag _ _)⟩
  · unfold State.readMdir
    obtain ⟨st2, d2, h2, g2⟩ := memRead_effect 4
      (mdirAddr s.cfg (BitVec.ofNat 8 (s.memRead (seqAddr s.cfg p) 1).1).toNat) { s with status := st, draws := d }
    obtain ⟨st3, d3, h3, g3⟩ := memRead_effect 1
      (mdirAddr s.cfg (BitVec.ofNat 8 (s.memRead (seqAddr s.cfg p) 1).1).toNat + 4) { s with status := st2, draws := d2 }
    simp only [h2, h3]
    exact ⟨_, _, _, rfl, g.trans (g2.trans g3)⟩

/-- NORMALISE's scan changes its result and what MEAS changes (R142). -/
theorem scan_effect (n p i : Nat) (s : State) :
    ∃ f m st d, State.scan n p i s = { s with retFound := f, retMeas := m, status := st, draws := d } ∧
      StatusGrows s.status st := by
  induction n generalizing p i s with
  | zero => exact ⟨_, _, _, _, rfl, .rfl⟩
  | succ n ih =>
    obtain ⟨m, st, d, h, g⟩ := meas_effect p s
    unfold State.scan
    split
    · rw [h]
      exact ⟨_, _, _, _, rfl, g⟩
    · obtain ⟨f, m', st', d', h', g'⟩ := ih ((p + 1) % s.cfg.k) 0 (s.meas p)
      rw [h']
      simp only [h] at g' ⊢
      exact ⟨_, _, _, _, rfl, g.trans g'⟩

/-- NORMALISE changes its result and what MEAS changes (R142). -/
theorem normalise_effect (s : State) (pos idx : BitVec 8) :
    ∃ f m st d, s.normalise pos idx = { s with retFound := f, retMeas := m, status := st, draws := d } ∧
      StatusGrows s.status st :=
  scan_effect _ _ _ _

/-- NEXT's scan changes its result and what MEAS changes (R144). -/
theorem nextScan_effect (n q : Nat) (s : State) :
    ∃ c m st d, State.nextScan n q s = { s with retNext := c, retMeas := m, status := st, draws := d } ∧
      StatusGrows s.status st := by
  induction n generalizing q s with
  | zero => exact ⟨_, _, _, _, rfl, .rfl⟩
  | succ n ih =>
    obtain ⟨m, st, d, h, g⟩ := meas_effect q s
    unfold State.nextScan
    split
    · rw [h]
      exact ⟨_, _, _, _, rfl, g⟩
    · obtain ⟨c, m', st', d', h', g'⟩ := ih (q + 1) (s.meas q)
      rw [h']
      simp only [h] at g' ⊢
      exact ⟨_, _, _, _, rfl, g.trans g'⟩

/-- NEXT changes its result and what MEAS changes (R144). -/
theorem nextNote_effect (s : State) (p i : BitVec 8) :
    ∃ c m st d, s.nextNote p i = { s with retNext := c, retMeas := m, status := st, draws := d } ∧
      StatusGrows s.status st := by
  obtain ⟨m, st, d, h, g⟩ := meas_effect p.toNat s
  unfold State.nextNote
  split
  · rw [h]
    exact ⟨_, _, _, _, rfl, g⟩
  · obtain ⟨c, m', st', d', h', g'⟩ := nextScan_effect (s.cfg.k - (p.toNat + 1)) (p.toNat + 1) (s.meas p.toNat)
    rw [h']
    simp only [h] at g' ⊢
    exact ⟨_, _, _, _, rfl, g.trans g'⟩

/-- A SongSequence entry: MEAS's result, `STATUS` and the free-value counter (R87, R141). -/
theorem seqWord_effect (s : State) (e : BitVec 8) :
    ∃ m st d, s.seqWord e = { s with retMeas := m, status := st, draws := d } ∧ StatusGrows s.status st := by
  unfold State.seqWord
  split
  · exact ⟨_, _, _, rfl, statusGrows_flag _ _⟩
  · unfold State.readMdir
    obtain ⟨st2, d2, h2, g2⟩ := memRead_effect 4 (mdirAddr s.cfg e.toNat) s
    obtain ⟨st3, d3, h3, g3⟩ := memRead_effect 1 (mdirAddr s.cfg e.toNat + 4) { s with status := st2, draws := d2 }
    simp only [h2, h3]
    exact ⟨_, _, _, rfl, g2.trans g3⟩

/-- DUR_LOOKUP changes its result, `STATUS` and the free-value counter (R145). -/
theorem durLookup_effect (s : State) (c : BitVec 8) :
    ∃ t st d, s.durLookup c = { s with retDur := t, status := st, draws := d } ∧ StatusGrows s.status st := by
  unfold State.durLookup
  split
  · exact ⟨_, _, _, rfl, statusGrows_flag _ _⟩
  · obtain ⟨st, d, h, g⟩ := memRead_effect 2 (durAddr s.cfg c.toNat) s
    unfold State.readDur
    simp only [h]
    exact ⟨_, _, _, rfl, g⟩

/-- ADVANCE at a playable position: MEAS's changes and the note's sub-steps (R143). -/
theorem playNote_effect (s : State) (c : Cursor) :
    ∃ m st d rec, s.playNote c = { s with
        retMeas := m, status := st, draws := d, todo := playTasks rec c ++ s.todo } ∧ StatusGrows s.status st := by
  obtain ⟨m, st, d, h, g⟩ := meas_effect c.pos.toNat s
  unfold State.playNote
  simp only [h]
  obtain ⟨st', d', h', g'⟩ := memRead_effect 4 (noteAddr m.addr c.idx.toNat)
    { s with retMeas := m, status := st, draws := d }
  simp only [h']
  exact ⟨_, _, _, _, rfl, g.trans g'⟩

/-- ADVANCE's first sub-step: either the song is empty, or it schedules the note found (R143, R148). -/
theorem advance_effect (s : State) :
    ∃ f m st d ts, s.advance = { s with
        retFound := f, retMeas := m, status := st, draws := d, todo := ts ++ s.todo } ∧
      StatusGrows s.status st ∧ f = (s.normalise s.seqPos s.noteIdx).retFound ∧
      ((f = none ∧ ts = voiceTasks 0 0 0 ++ [.clearCursor, .returnFallback]) ∨
        ∃ c rec, f = some c ∧ ts = playTasks rec c) := by
  obtain ⟨f, m, st, d, h, g⟩ := normalise_effect s s.seqPos s.noteIdx
  unfold State.advance
  cases f with
  | none =>
    simp only [h]
    exact ⟨_, _, _, _, _, rfl, g.trans (statusGrows_flag _ _), rfl, .inl ⟨rfl, rfl⟩⟩
  | some c =>
    simp only [h]
    obtain ⟨m', st', d', rec, h', g'⟩ := playNote_effect
      { s with retFound := some c, retMeas := m, status := st, draws := d } c
    rw [h']
    exact ⟨_, _, _, _, _, rfl, g.trans g', rfl, .inr ⟨c, rec, rfl, rfl⟩⟩

end Sys2Proof.Machine
end

