-- ==== Sys2Proof/Laws/PerInstr.lean ====
section
/-! SUPPORT. Statements made for every row of the opcode table, one lemma per constructor. -/

namespace Sys2Proof.Laws.EncodeWidth

/-- The encoded word has no bit at or above its format's width (R80). -/
def Statement (i : Instr) : Prop := ∀ c w, encode i = some (c, w) → w < 2 ^ c.width

theorem of_none {i : Instr} (h : encode i = none) : Statement i := by
  intro c w hw
  rw [h] at hw
  cases hw

theorem of_bits {i : Instr} {c : Channel} {n : Nat} (v : BitVec n) (hn : n = c.width)
    (h : encode i = some (c, v.toNat)) : Statement i := by
  intro c' w hw
  rw [h] at hw
  cases hw
  rw [← hn]
  exact v.isLt

theorem of_disp {i : Instr} (cmd : BitVec 2) (data : BitVec 64) (h : encode i = some (.disp, dispWord cmd data)) :
    Statement i := by
  intro c w hw
  rw [h] at hw
  cases hw
  have h1 := cmd.isLt
  have h2 := data.isLt
  show cmd.toNat * 2 ^ 64 + data.toNat < 2 ^ 66
  omega

theorem run (p : BitVec 4) (l : BitVec 12) : Statement (.run p l) := of_bits (p ++ l) rfl rfl
theorem pal (r g b : BitVec 8) : Statement (.pal r g b) := of_bits ((0 : BitVec 8) ++ r ++ g ++ b) rfl rfl
theorem fdir (a n : BitVec 32) : Statement (.fdir a n) := of_bits (n ++ a) rfl rfl
theorem mdir (a : BitVec 32) (n : BitVec 8) : Statement (.mdir a n) := of_bits ((0 : BitVec 24) ++ n ++ a) rfl rfl
theorem note (f0 f1 f2 dc : BitVec 8) : Statement (.note f0 f1 f2 dc) := of_bits (dc ++ f2 ++ f1 ++ f0) rfl rfl
theorem seq (m : BitVec 8) : Statement (.seq m) := of_bits m rfl rfl
theorem dur (t : BitVec 16) : Statement (.dur t) := of_bits t rfl rfl
theorem dispSetwin (x0 y0 x1 y1 : BitVec 16) : Statement (.dispSetwin x0 y0 x1 y1) := of_disp 0 _ rfl
theorem dispBegin : Statement .dispBegin := of_disp 1 0 rfl
theorem dispPixel (r g b : BitVec 8) : Statement (.dispPixel r g b) := of_disp 2 _ rfl
theorem dispReserved : Statement .dispReserved := of_disp 3 0 rfl
theorem sndSet (v : BitVec 2) (f : BitVec 8) : Statement (.sndSet v f) := of_bits (v ++ f) rfl rfl
theorem inRearm : Statement .inRearm := of_bits (1 : BitVec 1) rfl rfl
theorem init : Statement .init := of_none rfl
theorem iterate : Statement .iterate := of_none rfl
theorem pollInput : Statement .pollInput := of_none rfl
theorem mute : Statement .mute := of_none rfl
theorem unmute : Statement .unmute := of_none rfl
theorem videoTick : Statement .videoTick := of_none rfl
theorem decodeFrame (f : BitVec 8) : Statement (.decodeFrame f) := of_none rfl
theorem decodeRow : Statement .decodeRow := of_none rfl
theorem expandRun : Statement .expandRun := of_none rfl
theorem renderLine (r : BitVec 16) : Statement (.renderLine r) := of_none rfl
theorem audioTick : Statement .audioTick := of_none rfl
theorem advance : Statement .advance := of_none rfl
theorem meas (p : BitVec 8) : Statement (.meas p) := of_none rfl
theorem normalise (pos idx : BitVec 8) : Statement (.normalise pos idx) := of_none rfl
theorem next (p i : BitVec 8) : Statement (.next p i) := of_none rfl
theorem durLookup (c : BitVec 8) : Statement (.durLookup c) := of_none rfl
theorem mutedFallback : Statement .mutedFallback := of_none rfl
theorem songEmptyPause : Statement .songEmptyPause := of_none rfl
theorem passed (now dl : Nat) : Statement (.passed now dl) := of_none rfl

end Sys2Proof.Laws.EncodeWidth
end

