-- ==== Sys2Proof/Laws/Video.lean ====
section
/-! SUPPORT. What the frame decoder and the render driver can do (40_video.md). -/

namespace Sys2Proof.Machine

open Sys2Proof.Safety

@[simp] theorem fillLine_length (l : List Colour) (a n : Nat) (v : Colour) : (fillLine l a n v).length = l.length := by
  induction l, a, n, v using fillLine.induct <;> simp_all [fillLine]

/-- Entry `j` after the fill: the new colour inside the range, the old one outside it. -/
theorem fillLine_getElem? (l : List Colour) (a n : Nat) (v : Colour) (j : Nat) :
    (fillLine l a n v)[j]? = if a ≤ j ∧ j < a + n ∧ j < l.length then some v else l[j]? := by
  induction l, a, n, v using fillLine.induct generalizing j with
  | case1 => simp [fillLine]
  | case2 c cs skip n v ih =>
    cases j with
    | zero => simp [fillLine]
    | succ j =>
      simp only [fillLine, List.getElem?_cons_succ, ih, List.length_cons]
      congr 1
      exact propext ⟨fun h => by omega, fun h => by omega⟩
  | case3 c cs n v ih =>
    cases j with
    | zero => simp [fillLine]
    | succ j =>
      simp only [fillLine, List.getElem?_cons_succ, ih, List.length_cons]
      congr 1
      exact propext ⟨fun h => by omega, fun h => by omega⟩
  | case4 c cs v => rw [if_neg (by omega)]; rfl

/-- EXPAND_RUN, written out (R113, R114). -/
theorem expandRun_eq (s : State) :
    s.expandRun = { s with
      status := if decide (s.avail < s.curL.toNat) then s.status ||| flagMask .rowOvf else s.status
      line := fillLine s.line (s.x * s.cfg.s) (s.runFit * s.cfg.s) (s.palAt s.curP)
      x := s.x + s.runFit } := by
  unfold State.expandRun
  rw [flagIf_effect]

/-- A run never passes the row's end (R113). -/
theorem runFit_le (s : State) (h : s.x ≤ s.cfg.ws) : s.x + s.runFit ≤ s.cfg.ws := by
  unfold State.runFit State.avail
  omega

/-- EXPAND_RUN changes `LINE` inside its length, `X` inside the row, and `STATUS` (R113). -/
theorem expandRun_effect (s : State) :
    ∃ l x st, s.expandRun = { s with line := l, x := x, status := st } ∧ l.length = s.line.length ∧
      s.x ≤ x ∧ (s.x ≤ s.cfg.ws → x ≤ s.cfg.ws) ∧ StatusGrows s.status st :=
  ⟨_, _, _, expandRun_eq s, fillLine_length _ _ _ _, Nat.le_add_right _ _, runFit_le s, flagIf_grows _ _ .rowOvf⟩

/-- One pass of DECODE_ROW's loop (R112). -/
theorem runNext_effect (s : State) :
    ∃ l x st d p n, s.runNext = { s with
        line := l, x := x, status := st, draws := d, curP := p, curL := n, rp := s.rp + 2, rem := s.rem - 1 } ∧
      l.length = s.line.length ∧ s.x ≤ x ∧ (s.x ≤ s.cfg.ws → x ≤ s.cfg.ws) ∧ StatusGrows s.status st := by
  obtain ⟨st, d, h, g⟩ := memRead_effect 2 s.rp.toNat s
  unfold State.runNext State.runWord
  simp only [h]
  obtain ⟨l, x, st', h', hl, hx, hw, g'⟩ := expandRun_effect { s with
    status := st, draws := d, rp := s.rp + 2, rem := s.rem - 1,
    curP := (BitVec.ofNat 16 (s.memRead s.rp.toNat 2).1).extractLsb' 12 4,
    curL := (BitVec.ofNat 16 (s.memRead s.rp.toNat 2).1).extractLsb' 0 12 }
  exact ⟨l, x, st', d, _, _, h', hl, hx, hw, g.trans g'⟩

/-- DECODE_ROW's loop: only the decode registers, `LINE` inside its length, `STATUS` and the free-value counter
change, and `X` stays in the row (R112). -/
theorem rowLoop_effect (fuel : Nat) (s : State) :
    ∃ l x st d p n rp rem, State.rowLoop fuel s = { s with
        line := l, x := x, status := st, draws := d, curP := p, curL := n, rp := rp, rem := rem } ∧
      l.length = s.line.length ∧ (s.x ≤ s.cfg.ws → x ≤ s.cfg.ws) ∧ StatusGrows s.status st := by
  induction fuel generalizing s with
  | zero => exact ⟨_, _, _, _, _, _, _, _, rfl, rfl, id, .rfl⟩
  | succ fuel ih =>
    unfold State.rowLoop
    split
    · split
      · exact ⟨_, _, _, _, _, _, _, _, rfl, rfl, id, statusGrows_flag _ _⟩
      · obtain ⟨l, x, st, d, p, n, h, hl, hx, hw, g⟩ := runNext_effect s
        obtain ⟨l', x', st', d', p', n', rp', rem', h', hl', hw', g'⟩ := ih s.runNext
        rw [h']
        simp only [h] at hl' hw' g' ⊢
        exact ⟨l', x', st', d', p', n', rp', rem', rfl, hl'.trans hl, fun k => hw' (hw k), g.trans g'⟩
    · exact ⟨_, _, _, _, _, _, _, _, rfl, rfl, id, .rfl⟩

/-- DECODE_ROW: as its loop (R112). -/
theorem decodeRow_effect (s : State) :
    ∃ l x st d p n rp rem, s.decodeRow = { s with
        line := l, x := x, status := st, draws := d, curP := p, curL := n, rp := rp, rem := rem } ∧
      l.length = s.line.length ∧ x ≤ s.cfg.ws ∧ StatusGrows s.status st := by
  obtain ⟨l, x, st, d, p, n, rp, rem, h, hl, hw, g⟩ := rowLoop_effect (s.rem.toNat + 1) { s with x := 0 }
  exact ⟨l, x, st, d, p, n, rp, rem, h, hl, hw (Nat.zero_le _), g⟩

/-- DECODE_FRAME's first sub-step: `RP`, `REM`, and the rows scheduled (R110). -/
theorem decodeFrame_effect (s : State) (f : BitVec 8) :
    ∃ st d rp rem, s.decodeFrame f = { s with
        status := st, draws := d, rp := rp, rem := rem, todo := frameTasks s.cfg ++ s.todo } ∧
      StatusGrows s.status st := by
  obtain ⟨a, st, d, h, g⟩ := memRead_pair 4 (fdirAddr s.cfg f.toNat) s
  obtain ⟨n, st', d', h', g'⟩ := memRead_pair 4 (fdirAddr s.cfg f.toNat + 4) { s with status := st, draws := d }
  unfold State.decodeFrame
  simp only [h, h']
  exact ⟨st', d', _, _, rfl, g.trans g'⟩

end Sys2Proof.Machine
end

