-- ==== Sys2Proof/Laws/Scheduler.lean ====
section
/-! SUPPORT. What INIT, the ticks and the mute control can do (42_scheduler.md, 70_reset_and_hazards.md), and the
time arithmetic of the deadlines. -/

namespace Sys2Proof.Machine

open Sys2Proof.Safety

theorem clkMod_pos (c : Params) : 0 < c.clkMod := Nat.two_pow_pos _

theorem timeAdd_lt (c : Params) (a b : Nat) : timeAdd c a b < c.clkMod := Nat.mod_lt _ (clkMod_pos c)

theorem timeSub_lt (c : Params) (a b : Nat) : timeSub c a b < c.clkMod := Nat.mod_lt _ (clkMod_pos c)

theorem sampleClock_now_lt (s : State) : s.sampleClock.now < s.cfg.clkMod := Nat.mod_lt _ (clkMod_pos _)

/-- INIT's palette loop changes `PAL`, its index, `STATUS` and the free-value counter (R65, R232). -/
theorem loadPalette_effect (n : Nat) (s : State) :
    ∃ pl ix st d, State.loadPalette n s = { s with pal := pl, palIdx := ix, status := st, draws := d } ∧
      StatusGrows s.status st := by
  induction n generalizing s with
  | zero => exact ⟨_, _, _, _, rfl, .rfl⟩
  | succ n ih =>
    obtain ⟨st, d, h, g⟩ := memRead_effect 4 (palAddr s.cfg s.palIdx.toNat) s
    unfold State.loadPalette
    simp only [h]
    obtain ⟨pl, ix, st', d', h', g'⟩ := ih (State.palWord { s with status := st, draws := d }
      ((BitVec.ofNat 32 (s.memRead (palAddr s.cfg s.palIdx.toNat) 4).1).extractLsb' 16 8)
      ((BitVec.ofNat 32 (s.memRead (palAddr s.cfg s.palIdx.toNat) 4).1).extractLsb' 8 8)
      ((BitVec.ofNat 32 (s.memRead (palAddr s.cfg s.palIdx.toNat) 4).1).extractLsb' 0 8))
    rw [h']
    exact ⟨_, _, _, _, rfl, g.trans g'⟩

/-- INIT: the palette, one clock sample, both deadlines at it, and POLL (R232). -/
theorem initialise_effect (s : State) :
    ∃ pl ix st d, s.initialise = { s with
        pal := pl, palIdx := ix, status := st, draws := d, phase := .poll,
        now := s.pins.msNow % s.cfg.clkMod, lastSample := some (s.pins.msNow % s.cfg.clkMod),
        videoDl := s.pins.msNow % s.cfg.clkMod,
        audioDl := s.pins.msNow % s.cfg.clkMod, trace := s.trace ++ [.clock (s.pins.msNow % s.cfg.clkMod)] } ∧
      StatusGrows s.status st := by
  obtain ⟨pl, ix, st, d, h, g⟩ := loadPalette_effect 16 { s with palIdx := 0 }
  unfold State.initialise
  rw [h]
  exact ⟨pl, ix, st, d, rfl, g⟩

/-- INIT answers a next state only under legal parameters; it waits for the ROM, or has its effect under R216 (R7,
R206, R216, R232). -/
theorem execInit_next {s s' : State} (h : execInit s = .next s') :
    s.cfg.legal = true ∧ ((s.pins.romAck = false ∧ s' = s.romWait .init) ∨
      (s.pins.romAck = true ∧ s.clockKept = true ∧ s' = s.initialise)) := by
  unfold execInit at h
  split at h
  next hl =>
    split at h
    next hr => exact ⟨hl, .inr ⟨hr, withClock_next h⟩⟩
    next hr => cases h; exact ⟨hl, .inl ⟨by simpa using hr, rfl⟩⟩
  next hl => cases h

/-- MUTE answers a next state while MUTED, or under R216, and then it is its effect (R174, R216). -/
theorem execMute_next {s s' : State} (h : execMute s = .next s') :
    (s.muted = true ∨ s.clockKept = true) ∧ s' = s.mute := by
  unfold execMute at h
  split at h
  next hm => cases h; exact ⟨.inl hm, rfl⟩
  next hm => exact ⟨.inr (withClock_next h).1, (withClock_next h).2⟩

/-- UNMUTE answers a next state while PLAYING, or under R216, and then it is its effect (R175, R216). -/
theorem execUnmute_next {s s' : State} (h : execUnmute s = .next s') :
    (s.muted = false ∨ s.clockKept = true) ∧ s' = s.unmute := by
  unfold execUnmute at h
  split at h
  next hm => exact ⟨.inr (withClock_next h).1, (withClock_next h).2⟩
  next hm => cases h; exact ⟨.inl (by simpa using hm), rfl⟩

/-- MUTE while PLAYING (R174). -/
theorem mute_playing {s : State} (h : s.muted = false) :
    s.mute = { s.sampleClock.push (voiceTasks 0 0 0 ++ [.clearCursor, .muteEnd]) with muted := true } :=
  if_neg (by simp [h])

/-- MUTE while MUTED (R174). -/
theorem mute_muted {s : State} (h : s.muted = true) : s.mute = { s with phase := .video } := if_pos h

/-- UNMUTE while MUTED (R175). -/
theorem unmute_muted {s : State} (h : s.muted = true) :
    s.unmute = { s.sampleClock.setCursor ⟨0, 0⟩ with
      muted := false, audioDl := s.sampleClock.now, phase := .video } := if_pos h

/-- UNMUTE while PLAYING (R175). -/
theorem unmute_playing {s : State} (h : s.muted = false) : s.unmute = { s with phase := .video } :=
  if_neg (by simp [h])

/-- VIDEO_TICK whose deadline has passed (R177). -/
theorem videoTick_passed {s : State} (h : passedTest s.cfg s.sampleClock.now s.videoDl = true) :
    s.videoTick = { (s.sampleClock.passed s.sampleClock.now s.videoDl).push
        [.op (.decodeFrame (nextFrame s.cfg s.frameIdx)), .videoEnd] with frameIdx := nextFrame s.cfg s.frameIdx } :=
  if_pos h

/-- VIDEO_TICK whose deadline has not passed (R177). -/
theorem videoTick_ahead {s : State} (h : passedTest s.cfg s.sampleClock.now s.videoDl = false) :
    s.videoTick = { s.sampleClock.passed s.sampleClock.now s.videoDl with phase := .audio } :=
  if_neg (by simpa using h)

/-- AUDIO_TICK whose deadline has passed (R178). -/
theorem audioTick_passed {s : State} (h : passedTest s.cfg s.sampleClock.now s.audioDl = true) :
    s.audioTick = (s.sampleClock.passed s.sampleClock.now s.audioDl).push [.op (audioUpdate s.muted), .audioEnd] :=
  if_pos h

/-- AUDIO_TICK whose deadline has not passed (R178). -/
theorem audioTick_ahead {s : State} (h : passedTest s.cfg s.sampleClock.now s.audioDl = false) :
    s.audioTick = { s.sampleClock.passed s.sampleClock.now s.audioDl with phase := .poll } :=
  if_neg (by simpa using h)

end Sys2Proof.Machine
end

