-- ==== Sys2Proof/Laws/Step.lean ====
section
/-! SUPPORT. What one step can do, said once. -/

namespace Sys2Proof.Machine

/-- A step is a reset, the start of the next operation, or the first sub-step of the agenda (R29, R230). -/
theorem step_cases {s s' : State} (h : step s = .next s') :
    (s.nextPins.rst = true ∧ s' = s.begin.assertReset) ∨
      (s.nextPins.rst = false ∧ s.todo = [] ∧ exec (nextOperation s.phase) s.begin = .next s') ∨
      ∃ t rest, s.nextPins.rst = false ∧ s.todo = t :: rest ∧ runTask t { s.begin with todo := rest } = .next s' := by
  unfold step at h
  split at h
  next hr => cases h; exact .inl ⟨hr, rfl⟩
  next hr =>
    have hr' : s.nextPins.rst = false := by simpa using hr
    unfold State.runHead at h
    rw [State.begin_todo] at h
    split at h
    next ht => exact .inr (.inl ⟨hr', ht, h⟩)
    next t rest ht => exact .inr (.inr ⟨t, rest, hr', ht, h⟩)

/-- Without reset and with nothing to run, a step begins the next operation (R29, R172). -/
theorem step_begins {s : State} (hr : s.nextPins.rst = false) (ht : s.todo = []) :
    step s = exec (nextOperation s.phase) s.begin := by
  unfold step State.runHead
  rw [State.begin_pins, hr, State.begin_todo, ht]
  rfl

/-- Without reset a step runs the first sub-step of the agenda (R29). -/
theorem step_runs {s : State} {t : Task} {rest : List Task} (hr : s.nextPins.rst = false) (ht : s.todo = t :: rest) :
    step s = runTask t { s.begin with todo := rest } := by
  unfold step State.runHead
  rw [State.begin_pins, hr, State.begin_todo, ht]
  rfl

/-- Under reset a step resets (R230). -/
theorem step_resets {s : State} (hr : s.nextPins.rst = true) : step s = .next s.begin.assertReset := if_pos hr

/-- A word at the sequencer runs as the instruction it decodes to. -/
theorem runTask_word {nbits w : Nat} {i : Instr} (h : decodeTableWord nbits w = some i) (s : State) :
    runTask (.word nbits w) s = exec i s := by
  show runWordTask nbits w s = _
  unfold runWordTask
  rw [h]

/-- What reset keeps and sets (R230, R231, log 20). -/
theorem assertReset_fields (s : State) :
    s.assertReset.phase = .init ∧ s.assertReset.frameIdx = 0 ∧ s.assertReset.muted = false ∧
      s.assertReset.seqPos = 0 ∧ s.assertReset.noteIdx = 0 ∧ s.assertReset.status = 0 ∧
      s.assertReset.todo = [] ∧ s.assertReset.trace = s.trace ∧ s.assertReset.rom = s.rom ∧
      s.assertReset.cfg = s.cfg := ⟨rfl, rfl, rfl, rfl, rfl, rfl, rfl, rfl, rfl, rfl⟩

end Sys2Proof.Machine
end

