-- ==== Sys2Proof/Tests/Slice0.lean ====
section
/-! SUPPORT. Tests on words and vectors the spec writes out (95_test_vectors.md; each test names its vector), the
smoke tests of the well-formedness checks, and for every obligation with hypotheses a witness that meets them. -/

namespace Sys2Proof.Tests

open Sys2Proof.Machine Sys2Proof.Safety

/-! ### Decoding: words written out in 95_test_vectors.md 2.2 and 2.3 -/

/-- What `decodeBytes` gives, as an option. -/
def bytesAs (c : Channel) (bs : List Byte) : Option Instr :=
  match decodeBytes c bs with
  | .ok i => some i
  | .error _ => none

/-- What the display port's decoder gives, as an option. -/
def dispAs (cmd : BitVec 2) (data : BitVec 64) : Option Instr :=
  match decodeDisp cmd data with
  | .ok i => some i
  | .error _ => none

/-- What a word at a channel is, as an option. -/
def wordAs (c : Channel) (w : Nat) : Option Instr :=
  match decode c w with
  | .ok i => some i
  | .error _ => none

theorem test_run_word : bytesAs .run [0x50, 0x30] = some (.run 3 80) := by decide -- V-ENC-1
theorem test_run_word_ones : bytesAs .run [0xFF, 0xFF] = some (.run 15 4095) := by decide -- V-ENC-3
theorem test_run_word_order : bytesAs .run [0x03, 0x10] = some (.run 1 3) := by decide -- V-ENC-4
theorem test_pal_word : bytesAs .pal [0x56, 0x34, 0x12, 0xFF] = some (.pal 0x12 0x34 0x56) := by decide -- V-ENC-5
theorem test_pal_word_red : bytesAs .pal [0, 0, 0xFF, 0] = some (.pal 0xFF 0 0) := by decide -- V-ENC-6
theorem test_fdir_word : bytesAs .fdir [0, 1, 0, 0, 5, 0, 0, 0] = some (.fdir 0x100 5) := by decide -- V-ENC-7
theorem test_mdir_word : bytesAs .mdir [0x40, 2, 0, 0, 3, 0xAA, 0xBB, 0xCC] = some (.mdir 0x240 3) := by
  decide -- V-ENC-8
theorem test_note_word : bytesAs .note [0x28, 0x32, 0, 2] = some (.note 40 50 0 2) := by decide -- V-ENC-9
theorem test_dur_word : bytesAs .dur [0x10, 0x27] = some (.dur 10000) := by decide -- V-ENC-11
theorem test_seq_word : bytesAs .seq [0xFF] = some (.seq 255) := by decide -- V-ENC-12
theorem test_setwin_word : dispAs 0 0x0003000700020000 = some (.dispSetwin 0 2 7 3) := by decide -- V-PRT-2
theorem test_setwin_wide : dispAs 0 0x0007013F00040000 = some (.dispSetwin 0 4 319 7) := by decide -- V-PRT-3
theorem test_begin_word : dispAs 1 0 = some .dispBegin := by decide -- V-PRT-4
theorem test_pixel_word : dispAs 2 0x123456 = some (.dispPixel 0x12 0x34 0x56) := by decide -- V-PRT-5
theorem test_reserved_word : wordAs .disp (3 * 2 ^ 64) = some .dispReserved := by decide -- R89
theorem test_snd_word : wordAs .snd 0x280 = some (.sndSet 2 0x80) := by decide -- V-PRT-6
theorem test_rearm_word : wordAs .rearm 1 = some .inRearm := by decide -- V-PRT-8

/-- R91, R92, R95: payload bits that carry no field are 0. -/
theorem test_payload_rejected :
    dispAs 1 1 = none ∧ dispAs 2 0x1000000 = none ∧ wordAs .rearm 0 = none ∧ wordAs .snd 0x300 = none ∧
      wordAs .seq 256 = none := by decide

/-- RUNX of R96 and its bytes (95_test_vectors.md 2.2), the encoder's side. -/
theorem test_encode_runx :
    (encode (.run 3 4095)).map (fun e => toBytes 2 e.2) = some [0xFF, 0x3F] ∧
      (encode (.run 3 905)).map (fun e => toBytes 2 e.2) = some [0x89, 0x33] := by decide

/-- `decodeTableWord` on words of the table's widths. -/
theorem test_table_words :
    decodeTableWord 16 0x3050 = some (.run 3 80) ∧ decodeTableWord 32 0xFF123456 = some (.pal 0x12 0x34 0x56) ∧
      decodeTableWord 64 0x0000000500000100 = some (.fdir 0x100 5) ∧ decodeTableWord 8 0xFF = some (.seq 255) ∧
      decodeTableWord 8 1 = some .dispBegin ∧ decodeTableWord 8 3 = some .dispReserved ∧
      decodeTableWord 10 0x280 = some (.sndSet 2 0x80) ∧ decodeTableWord 1 1 = some .inRearm := by decide

/-! ### Well-formedness: each check refuses an ill-formed term -/

theorem test_wf_accepts : Instr.wellFormed (.dispSetwin 0 2 7 3) = true ∧ Instr.wellFormed (.sndSet 2 0) = true ∧
    Instr.wellFormed (.passed (2 ^ 64 - 1) 0) = true := by decide
theorem test_wf_window_columns : Instr.wellFormed (.dispSetwin 8 0 7 3) = false := by decide -- R90
theorem test_wf_window_rows : Instr.wellFormed (.dispSetwin 0 4 7 3) = false := by decide -- R90
theorem test_wf_reserved : Instr.wellFormed .dispReserved = false := by decide -- R89
theorem test_wf_voice : Instr.wellFormed (.sndSet 3 0) = false := by decide -- R93
theorem test_wf_time : Instr.wellFormed (.passed (2 ^ 64) 0) = false ∧
    Instr.wellFormed (.passed 0 (2 ^ 64)) = false := by decide -- R6

/-! ### Configuration T and the base ROM image (95_test_vectors.md, section 3) -/

/-- Configuration T with the table bases of section 3. -/
def cfgT : Params where
  w := 8
  h := 4
  s := 2
  nf := 2
  k := 2
  m := 2
  nd := 4
  fallbackMs := 10000
  framePeriodMs := 100
  clkW := 32
  romSize := 0xB0
  palBase := 0x00
  fdirBase := 0x40
  durBase := 0x50
  mdirBase := 0x58
  seqBase := 0x68

/-- The image's rows from 0x40 on (section 3.1). -/
def tablesT : List Byte :=
  [0x70, 0, 0, 0, 3, 0, 0, 0, 0x80, 0, 0, 0, 3, 0, 0, 0] ++
    [0, 0, 0x32, 0, 0x64, 0, 0x96, 0, 0x90, 0, 0, 0, 2, 0, 0, 0] ++
    [0xA0, 0, 0, 0, 1, 0, 0, 0, 0, 1, 0, 0, 0, 0, 0, 0] ++
    [3, 0x10, 1, 0x20, 4, 0x30, 0, 0, 0, 0, 0, 0, 0, 0, 0, 0] ++
    [4, 0x40, 2, 0x50, 2, 0x60, 0, 0, 0, 0, 0, 0, 0, 0, 0, 0] ++
    [0x28, 0x32, 0, 2, 0x3C, 0, 0, 1, 0, 0, 0, 0, 0, 0, 0, 0] ++
    [0, 0, 0x46, 3, 0, 0, 0, 0, 0, 0, 0, 0, 0, 0, 0, 0]

/-- The palette rows of the image: entry `i` is `i * 0x111111`. -/
def paletteT : List Byte :=
  (List.range 16).flatMap fun i => [BitVec.ofNat 8 (17 * i), BitVec.ofNat 8 (17 * i), BitVec.ofNat 8 (17 * i), 0]

/-- The cells of an image from address `a` on; the fill needs none. -/
def cellsFrom : Nat → List Byte → Memory
  | _, [] => []
  | a, b :: bs => if b = Config.romFill then cellsFrom (a + 1) bs else (a, b) :: cellsFrom (a + 1) bs

/-- The base image as ROM contents. -/
def romT : Memory := cellsFrom 0 (paletteT ++ tablesT)

/-- A state of configuration T past INIT: the palette loaded, `LINE` as in 2.4, an audio cursor at (0, 0). -/
def stateT : State :=
  { State.resetWith cfgT with
    rom := romT
    pins := acceptingPins 777
    phase := .poll
    line := List.replicate 8 0xAAAAAA
    pal := Vector.ofFn fun i => BitVec.ofNat 24 (i.val * 0x111111) }

/-- The next state's part that `f` reads. -/
def part {α : Type} (f : State → α) (r : Result) : Option α :=
  match r with
  | .next s => some (f s)
  | .fault _ => none
  | .refused _ => none

theorem test_cfgT_legal : cfgT.legal = true := by decide
theorem test_romT_wf : Memory.wf romT = true := by decide
theorem test_load : Memory.load [] 0x90 [0x28, 0x32, 0, 2] = [(0x90, 0x28), (0x91, 0x32), (0x93, 2)] := by decide
theorem test_load_over : Memory.load [(0x90, 1), (0x91, 5)] 0x90 [0, 6] = [(0x91, 6)] := by decide

/-! ### Parameter legality: each item of R7 refuses -/

theorem test_legal_scale : Params.legal { cfgT with s := 3 } = false ∧ Params.legal { cfgT with s := 0 } = false := by
  decide
theorem test_legal_waits : Params.legal { cfgT with fallbackMs := 2 ^ 31 } = false ∧
    Params.legal { cfgT with framePeriodMs := 2 ^ 31 } = false := by decide
theorem test_legal_counts : Params.legal { cfgT with k := 0 } = false ∧ Params.legal { cfgT with nf := 257 } = false := by
  decide
theorem test_legal_tables : Params.legal { cfgT with romSize := 0x69 } = false := by decide
theorem test_legal_range : Params.legal { cfgT with clkW := 16 } = false := by decide

/-! ### The rows of the table, one step each -/

/-- The line entries that `n` copies of each colour make. -/
def copies (cs : List (Nat × Colour)) : List Colour := cs.flatMap fun c => List.replicate c.1 c.2

/-- `stateT` about to decode a row whose words stand at 0x70, `n` of them. -/
def rowT (bytes : List Byte) (n : BitVec 32) : State :=
  { stateT with rom := cellsFrom 0x70 bytes, rp := 0x70, rem := n }

theorem test_run : part (fun t => (t.line, t.x, t.status)) (exec (.run 5 2) { stateT with x := 1 }) =
    some (copies [(2, 0xAAAAAA), (4, 0x555555), (2, 0xAAAAAA)], 3, 0) := by decide -- V-DEC-10
theorem test_expandRun_clips :
    part (fun t => (t.line, t.x, t.status)) (exec .expandRun { stateT with x := 2, curP := 2, curL := 5 }) =
      some (copies [(4, 0xAAAAAA), (4, 0x222222)], 4, 1) := by decide -- V-DEC-5
theorem test_decodeRow : part (fun t => (t.line, t.x, t.rem, t.rp, t.status))
    (exec .decodeRow (rowT [3, 0x10, 1, 0x20] 2)) =
      some (copies [(6, 0x111111), (2, 0x222222)], 4, 0, 0x74, 0) := by decide -- V-DEC-2
theorem test_decodeRow_overflow : part (fun t => (t.line, t.x, t.rem, t.rp, t.status))
    (exec .decodeRow (rowT [6, 0x70, 4, 0x10] 2)) =
      some (List.replicate 8 0x777777, 4, 1, 0x72, 1) := by decide -- V-DEC-4
theorem test_decodeRow_short : part (fun t => (t.line, t.x, t.rem, t.status))
    (exec .decodeRow (rowT [1, 0x30] 1)) =
      some (copies [(2, 0x333333), (6, 0xAAAAAA)], 1, 0, 2) := by decide -- V-DEC-6
theorem test_decodeFrame : part (fun t => (t.rp, t.rem, t.todo)) (exec (.decodeFrame 1) stateT) =
    some (0x80, 3, [.setRow 0, .op .decodeRow, .op (.renderLine 0), .setRow 1, .op .decodeRow, .op (.renderLine 1),
      .frameEnd]) := by decide -- section 3.1, R110
theorem test_fdir : part (fun t => (t.rp, t.rem)) (exec (.fdir 0x100 5) stateT) = some (0x100, 5) := by
  decide -- V-ENC-7
theorem test_renderLine : part (fun t => t.todo)
    (exec (.renderLine 1) { stateT with line := copies [(6, 0x111111), (2, 0x222222)] }) =
      some ((.dispSetwin 0 2 7 3 :: .dispBegin :: (List.replicate 6 (.dispPixel 0x11 0x11 0x11) ++
        List.replicate 2 (.dispPixel 0x22 0x22 0x22) ++ List.replicate 6 (.dispPixel 0x11 0x11 0x11) ++
        List.replicate 2 (.dispPixel 0x22 0x22 0x22))).map .op) := by decide -- V-REN-1
theorem test_setwin : part (fun t => t.trace) (exec (.dispSetwin 0 4 319 7) stateT) =
    some [.disp 0 0x0007013F00040000] := by decide -- V-PRT-3
theorem test_begin : part (fun t => t.trace) (exec .dispBegin stateT) = some [.disp 1 0] := by decide -- V-PRT-4
theorem test_pixel : part (fun t => t.trace) (exec (.dispPixel 0x12 0x34 0x56) stateT) = some [.disp 2 0x123456] := by
  decide -- V-PRT-5
theorem test_snd : part (fun t => t.trace) (exec (.sndSet 2 0x80) stateT) = some [.snd 2 0x80] := by decide -- V-PRT-6
theorem test_rearm : part (fun t => (t.rearm, t.trace)) (exec .inRearm stateT) = some (true, [.rearm]) := by
  decide -- V-PRT-8
theorem test_pal : part (fun t => t.palAt 3) (exec (.pal 0x12 0x34 0x56) { stateT with palIdx := 3 }) =
    some 0x123456 := by decide -- V-ENC-5
theorem test_init : part (fun t => [t.videoDl, t.audioDl])
    (exec .init { stateT with phase := .init, pins := acceptingPins 0x80000123 }) = some [0x80000123, 0x80000123] := by
  decide +kernel -- V-SCH-14
theorem test_init_palette : part (fun t => (t.palAt 15, t.status)) (exec .init { stateT with phase := .init }) =
    some (0xFFFFFF, 0) := by decide +kernel -- section 3.1
theorem test_sample_backward_refused :
    part (fun t => t.now) (exec .videoTick { stateT with lastSample := some 100, pins := acceptingPins 99 }) = none ∧
      part (fun t => t.now) (exec .audioTick { stateT with lastSample := some 0, pins := acceptingPins (2 ^ 31) }) =
        none := by decide -- U6, R216
theorem test_sample_forward_and_wrap :
    part (fun t => t.now) (exec .videoTick { stateT with lastSample := some 0, pins := acceptingPins (2 ^ 31 - 1) }) =
        some (2 ^ 31 - 1) ∧
      part (fun t => t.now) (exec .audioTick { stateT with lastSample := some 0xFFFFFFF4, pins := acceptingPins 0x10 }) =
        some 0x10 := by decide -- R216; P3, iteration 3
theorem test_iterate : part (fun t => t.todo) (exec .iterate stateT) =
    some [.op .pollInput, .request, .op .videoTick, .op .audioTick] := by decide -- R172
theorem test_pollInput : part (fun t => (t.trace, t.mreq, t.ureq))
    (exec .pollInput { stateT with pins := { acceptingPins 0 with muteN := false } }) =
      some ([.input false true, .rearm], true, false) := by decide -- P2, iteration 2
theorem test_mute : part (fun t => (t.muted, t.trace, t.todo))
    (exec .mute { stateT with pins := acceptingPins 5000, audioDl := 5100, seqPos := 3, noteIdx := 2 }) =
      some (true, [.clock 5000], voiceTasks 0 0 0 ++ [.clearCursor, .muteEnd]) := by decide -- V-SCH-1
theorem test_muteEnd : part (fun t => t.audioDl) (runTask .muteEnd { stateT with now := 5000 }) = some 15000 := by
  decide -- V-SCH-1
theorem test_unmute : part (fun t => (t.muted, t.audioDl, t.trace, t.seqPos, t.noteIdx))
    (exec .unmute { stateT with muted := true, pins := acceptingPins 7000, seqPos := 1, noteIdx := 0 }) =
      some (false, 7000, [.clock 7000], 0, 0) := by decide -- V-SCH-3
theorem test_videoTick : part (fun t => (t.frameIdx, t.todo, t.trace))
    (exec .videoTick { stateT with pins := acceptingPins 1000, videoDl := 1000, frameIdx := 1 }) =
      some (0, [.op (.decodeFrame 0), .videoEnd], [.clock 1000]) := by decide -- V-SCH-7
theorem test_videoTick_early : part (fun t => (t.frameIdx, t.todo, t.trace))
    (exec .videoTick { stateT with pins := acceptingPins 999, videoDl := 1000, frameIdx := 1 }) =
      some (1, [], [.clock 999]) := by decide -- V-SCH-8
theorem test_audioTick : part (fun t => (t.todo, t.trace))
    (exec .audioTick { stateT with pins := acceptingPins 2030, audioDl := 2000 }) =
      some ([.op .advance, .audioEnd], [.clock 2030]) := by decide -- V-SCH-9
theorem test_audioEnd_wraps : part (fun t => t.audioDl)
    (runTask .audioEnd { stateT with audioDl := 0xFFFFFFF0, retDur := 100 }) = some 0x54 := by decide -- V-SCH-10
theorem test_advance : part (fun t => t.todo) (exec .advance stateT) =
    some [.op (.sndSet 0 40), .op (.sndSet 1 50), .op (.sndSet 2 0), .op (.durLookup 2), .op (.next 0 0),
      .storeCursor] := by decide -- P1, iteration 1
theorem test_advance_empty : part (fun t => (t.todo, t.status))
    (exec .advance { stateT with rom := Memory.load (Memory.load romT 0x5C [0]) 0x64 [0] }) =
      some (voiceTasks 0 0 0 ++ [.clearCursor, .returnFallback], 0x20) := by decide -- P4
theorem test_note : part (fun t => t.todo) (exec (.note 40 50 0 2) stateT) =
    some [.op (.sndSet 0 40), .op (.sndSet 1 50), .op (.sndSet 2 0), .op (.durLookup 2)] := by decide -- V-AUD-6
theorem test_meas : part (fun t => t.retMeas) (exec (.meas 1) stateT) = some ⟨0xA0, 1⟩ := by decide -- section 3.1
theorem test_meas_bad : part (fun t => (t.retMeas, t.status))
    (exec (.meas 1) { stateT with rom := Memory.write romT 0x69 9 }) = some (⟨0, 0⟩, 0x10) := by decide -- P3
theorem test_seq : part (fun t => t.retMeas) (exec (.seq 0) stateT) = some ⟨0x90, 2⟩ := by decide -- section 3.1
theorem test_mdir : part (fun t => t.retMeas) (exec (.mdir 0x240 3) stateT) = some ⟨0x240, 3⟩ := by decide -- V-ENC-8
theorem test_normalise : part (fun t => t.retFound) (exec (.normalise 0 2) stateT) = some (some ⟨1, 0⟩) := by
  decide -- R142 over section 3.1: CNT = [2, 1]
theorem test_next : part (fun t => t.retNext) (exec (.next 0 1) stateT) = some ⟨1, 0⟩ := by decide -- P1, iteration 3
theorem test_next_wraps : part (fun t => t.retNext) (exec (.next 1 0) stateT) = some ⟨0, 0⟩ := by
  decide -- P1, iteration 4
theorem test_durLookup : part (fun t => (t.retDur, t.status)) (exec (.durLookup 3) stateT) = some (150, 0) := by
  decide -- V-AUD-5
theorem test_durLookup_bad : part (fun t => (t.retDur, t.status)) (exec (.durLookup 4) stateT) = some (0, 8) := by
  decide -- V-AUD-5
theorem test_dur : part (fun t => t.retDur) (exec (.dur 10000) stateT) = some 10000 := by decide -- V-ENC-11
theorem test_mutedFallback : part (fun t => (t.todo, t.status)) (exec .mutedFallback { stateT with muted := true }) =
    some (voiceTasks 0 0 0 ++ [.returnFallback], 0) := by decide -- V-AUD-11
theorem test_returnFallback : part (fun t => t.retDur) (runTask .returnFallback stateT) = some 10000 := by
  decide -- V-AUD-11
theorem test_songEmptyPause : part (fun t => (t.todo, t.status)) (exec .songEmptyPause stateT) =
    some (voiceTasks 0 0 0 ++ [.clearCursor, .returnFallback], 0x20) := by decide -- V-AUD-9
theorem test_passed_wraps : part (fun t => t.retPassed) (exec (.passed 5 0xFFFFFFF0) stateT) = some true ∧
    part (fun t => t.retPassed) (exec (.passed 0xFFFFFFF0 5) stateT) = some false := by decide -- V-PAS-4, V-PAS-5
theorem test_passed_halfRange : part (fun t => t.retPassed) (exec (.passed 0x7FFFFFFF 0) stateT) = some true ∧
    part (fun t => t.retPassed) (exec (.passed 0x80000000 0) stateT) = some false := by decide -- V-PAS-6, V-PAS-7
theorem test_reserved_stops : part (fun t => t.trace) (exec .dispReserved stateT) = none := by decide -- R89

/-! ### Witnesses: concrete values that meet the hypotheses of each obligation, clause by clause -/

/-- The answer is a next state. -/
def isNext (r : Result) : Bool :=
  match r with
  | .next _ => true
  | .fault _ => false
  | .refused _ => false

/-- A schedule of `n` steps under accepting pins. -/
def readyFor (n : Nat) : List Pins := List.replicate n (acceptingPins 0)

/-- The state of a running block: `stateT` between operations with a schedule ahead. -/
def readyT (ts : List Task) : State := { stateT with todo := ts, stimulus := readyFor 60 }

/-- `readyT` whose next step finds no port ready. -/
def busyT (ts : List Task) : State :=
  { readyT ts with stimulus := [{ acceptingPins 0 with dispReady := false, sndReady := false, romAck := false }] }

theorem witness_DecodeOfEncode : Instr.wellFormed (.run 15 4095) = true ∧ encode (.run 15 4095) = some (.run, 0xFFFF) ∧
    Instr.wellFormed (.sndSet 2 0xFF) = true ∧ encode (.sndSet 2 0xFF) = some (.snd, 0x2FF) ∧
    Instr.wellFormed (.dispSetwin 0 0 0 0) = true ∧ encode (.dispSetwin 0 0 0 0) = some (.disp, 0) := by decide
theorem witness_EncodeOfDecode : wordAs .pal 0xFF123456 = some (.pal 0x12 0x34 0x56) ∧
    wordAs .mdir (2 ^ 64 - 1) = some (.mdir 0xFFFFFFFF 0xFF) ∧ wordAs .disp (2 ^ 64) = some .dispBegin := by decide
theorem witness_EveryRomWordDecodes : (Channel.fdir ≠ .disp ∧ Channel.fdir ≠ .snd ∧ Channel.fdir ≠ .rearm) ∧
    2 ^ 64 - 1 < 2 ^ Channel.fdir.width ∧ 0 < 2 ^ Channel.run.width ∧ 0xFFFF < 2 ^ 16 := by decide
theorem witness_StepRunsDecodedWord : (readyT [.word 16 0xFFFF]).nextPins.rst = false ∧
    (readyT [.word 16 0xFFFF]).todo = .word 16 0xFFFF :: [] ∧
    decodeTableWord 16 0xFFFF = some (.run 15 4095) := by decide
theorem witness_StepRunsAgenda : (readyT [.op .mute]).nextPins.rst = false ∧ (readyT [.op .mute]).todo = .op .mute :: [] ∧
    (readyT []).nextPins.rst = false ∧ (readyT []).todo = [] ∧ (readyT []).phase ≠ .init ∧
    { readyT [] with phase := .init }.phase = .init := by decide
theorem witness_FetchWordRunsNext : decodeTableWord 64 0x0000000500000100 = some (.fdir 0x100 5) := by decide
theorem witness_ResetValues : State.reset = State.resetWith Config.built ∧ State.resetWith cfgT = State.resetWith cfgT :=
  ⟨rfl, rfl⟩
theorem witness_ResetAbandonsOperation :
    { readyT [.op .dispBegin] with stimulus := [{ acceptingPins 0 with rst := true }] }.nextPins.rst = true := by decide
theorem witness_MemReadBytesAndRange : 1 < 2 ∧ (0xAE + 1) % 2 ^ 32 < stateT.cfg.romSize ∧
    stateT.cfg.romSize ≤ (0xAF + 1) % 2 ^ 32 ∧ (2 ^ 32 - 1 + 1) % 2 ^ 32 < stateT.cfg.romSize := by decide
theorem witness_RomAndParametersConstant : isNext (step (readyT [.op .advance])) = true := by decide
theorem witness_RomReadWaitsForAck : (busyT []).begin.cfg.legal = true ∧ (busyT []).begin.pins.romAck = false ∧
    { (busyT []).begin with rem := 1 }.rem ≠ 0 ∧ (3 : BitVec 8).toNat < (busyT []).begin.cfg.nd ∧
    (1 : BitVec 8).toNat < (busyT []).begin.cfg.m := by decide
theorem witness_DisplayTransactionAccepted : stateT.pins.dispReady = true := by decide
theorem witness_DisplayTransactionWaits : (busyT []).begin.pins.dispReady = false := by decide
theorem witness_SoundTransaction : (2 : BitVec 2).toNat < 3 ∧ (0 : BitVec 2).toNat < 3 ∧ stateT.pins.sndReady = true ∧
    (busyT []).begin.pins.sndReady = false := by decide

/-- A window offered and not accepted yet. -/
def offeringDisp (s : State) : State :=
  { s with dispValid := true, dispCmd := 1, dispData := 0 }

/-- A voice write offered and not accepted yet. -/
def offeringSnd (s : State) : State :=
  { s with sndValid := true, sndVoice := 2, sndFreq := 70 }

theorem witness_OfferedTransactionHeld_disp : offersOk (offeringDisp (readyT [.op .dispBegin])) ∧
    (offeringDisp (readyT [.op .dispBegin])).nextPins.rst = false ∧
    (offeringDisp (readyT [.op .dispBegin])).dispValid = true ∧
    (offeringDisp (readyT [.op .dispBegin])).nextPins.dispReady = true ∧
    offersOk (offeringDisp (busyT [.op .dispBegin])) ∧ (offeringDisp (busyT [.op .dispBegin])).nextPins.rst = false ∧
    (offeringDisp (busyT [.op .dispBegin])).nextPins.dispReady = false := by decide
theorem witness_OfferedTransactionHeld_snd : offersOk (offeringSnd (readyT [.op (.sndSet 2 70)])) ∧
    (offeringSnd (readyT [.op (.sndSet 2 70)])).nextPins.rst = false ∧
    (offeringSnd (readyT [.op (.sndSet 2 70)])).sndValid = true ∧
    (offeringSnd (readyT [.op (.sndSet 2 70)])).nextPins.sndReady = true ∧
    offersOk (offeringSnd (busyT [.op (.sndSet 2 70)])) ∧ (offeringSnd (busyT [.op (.sndSet 2 70)])).nextPins.rst = false ∧
    (offeringSnd (busyT [.op (.sndSet 2 70)])).nextPins.sndReady = false := by decide
theorem witness_OffersMatchAgenda : offersOk (offeringDisp (readyT [.op .dispBegin])) ∧
    isNext (step (offeringDisp (readyT [.op .dispBegin]))) = true := by decide
theorem witness_TraceGrowsByLegalEvents : isNext (step (readyT [.op .inRearm])) = true ∧
    part (fun t => t.rearm) (step (readyT [.op .inRearm])) = some true ∧
    part (fun t => t.rearm) (step (readyT [.op .dispBegin])) = some false := by decide
theorem witness_RunExpandsInsideLine : stateT.cfg.ws - { stateT with x := 3 }.x < { stateT with curL := 4095 }.curL.toNat ∧
    0 < stateT.line.length := by decide
theorem witness_DecodeRowBounded : (rowT [1, 0x30] 1).pins.romAck = true ∧
    part (fun t => decide (t.x < t.cfg.ws)) (exec .decodeRow (rowT [1, 0x30] 1)) = some true := by decide
theorem witness_WellFormedRowDecodes : (rowT [3, 0x10, 1, 0x20] 2).cfg.legal = true ∧
    (rowT [3, 0x10, 1, 0x20] 2).line.length = (rowT [3, 0x10, 1, 0x20] 2).cfg.w ∧
    (rowT [3, 0x10, 1, 0x20] 2).pins.romAck = true ∧
    rowWellFormed (rowT [3, 0x10, 1, 0x20] 2).cfg [(1, 3), (2, 1)] = true ∧
    wordsAt (rowT [3, 0x10, 1, 0x20] 2) (rowT [3, 0x10, 1, 0x20] 2).rp.toNat [(1, 3), (2, 1)] = true ∧
    [((1 : BitVec 4), (3 : BitVec 12)), (2, 1)].length ≤ (rowT [3, 0x10, 1, 0x20] 2).rem.toNat := by decide
theorem witness_ExhaustedRowKeepsLine : stateT.rem = 0 ∧ 0 < stateT.cfg.ws := by decide
theorem witness_DecodeFrameStarts : stateT.cfg.legal = true ∧ (1 : BitVec 8).toNat < stateT.cfg.nf ∧
    stateT.pins.romAck = true ∧ (readyT [.setRow 1]).nextPins.rst = false ∧
    (readyT [.setRow 1]).todo = .setRow 1 :: [] := by decide
theorem witness_LeftoverWordsFlagged : (readyT [.frameEnd]).nextPins.rst = false ∧
    (readyT [.frameEnd]).todo = .frameEnd :: [] ∧ { readyT [.frameEnd] with rem := 1 }.rem ≠ 0 := by decide
theorem witness_RenderLineEmitsLine : (readyT [.op (.renderLine 1)]).line.length = (readyT [.op (.renderLine 1)]).cfg.w ∧
    (readyT [.op (.renderLine 1)]).todo = .op (.renderLine 1) :: [] ∧
    accepts (readyT [.op (.renderLine 1)]) (3 + cfgT.s * cfgT.w) = true := by decide
theorem witness_FrameOutputFixed : (readyT [.op (.decodeFrame 1)]).cfg.legal = true ∧
    (readyT [.op (.decodeFrame 1)]).line.length = (readyT [.op (.decodeFrame 1)]).cfg.w ∧
    (readyT [.op (.decodeFrame 1)]).todo = .op (.decodeFrame 1) :: [] ∧
    accepts (readyT [.op (.decodeFrame 1)]) (2 + cfgT.rs * (5 + cfgT.s * cfgT.w)) = true := by decide
theorem witness_MeasReturnsMeasure : stateT.cfg.legal = true ∧ (1 : BitVec 8).toNat < stateT.cfg.k ∧
    stateT.pins.romAck = true := by decide
theorem witness_AudioWordsRun : stateT.cfg.m ≤ (2 : BitVec 8).toNat ∧ (1 : BitVec 8).toNat < stateT.cfg.m ∧
    stateT.cfg.legal = true ∧ stateT.pins.romAck = true := by decide
theorem witness_NormaliseFindsFirstPlayable : stateT.cfg.legal = true ∧ (1 : BitVec 8).toNat < stateT.cfg.k ∧
    stateT.pins.romAck = true ∧ firstPlayable stateT 0 2 = some ⟨1, 0⟩ := by decide
theorem witness_NextReturnsCursorAfter : stateT.cfg.legal = true ∧ (0 : BitVec 8).toNat < stateT.cfg.k ∧
    (1 : BitVec 8).toNat < cntOf stateT (0 : BitVec 8).toNat ∧ stateT.pins.romAck = true := by decide
theorem witness_DurLookupBounded : stateT.cfg.nd ≤ (4 : BitVec 8).toNat ∧ (3 : BitVec 8).toNat < stateT.cfg.nd ∧
    stateT.cfg.legal = true ∧ stateT.pins.romAck = true := by decide
theorem witness_AdvanceSchedulesNote : stateT.cfg.legal = true ∧ stateT.seqPos.toNat < stateT.cfg.k ∧
    stateT.pins.romAck = true ∧ firstPlayable stateT 0 0 = some ⟨0, 0⟩ ∧
    inRom stateT (noteAddr (measOf stateT 0).addr 0) 4 = true ∧
    firstPlayable { stateT with rom := [] } 0 0 = none ∧
    inRom { stateT with rom := Memory.write romT 0x59 1 }
      (noteAddr (measOf { stateT with rom := Memory.write romT 0x59 1 } 0).addr 0) 4 = false := by decide
theorem witness_AdvancePlaysNote : (readyT [.op .advance]).cfg.legal = true ∧
    (readyT [.op .advance]).seqPos.toNat < (readyT [.op .advance]).cfg.k ∧
    (readyT [.op .advance]).todo = .op .advance :: [] ∧ accepts (readyT [.op .advance]) 7 = true ∧
    firstPlayable (readyT [.op .advance]) (readyT [.op .advance]).seqPos.toNat
      (readyT [.op .advance]).noteIdx.toNat = some ⟨0, 0⟩ ∧
    inRom (readyT [.op .advance]) (noteAddr (measOf (readyT [.op .advance]) 0).addr 0) 4 = true := by decide
theorem witness_SilencesReturnFallback : (readyT [.op .mutedFallback]).todo = .op .mutedFallback :: [] ∧
    accepts (readyT [.op .mutedFallback]) 5 = true ∧
    (readyT [.op .songEmptyPause]).todo = .op .songEmptyPause :: [] ∧
    accepts (readyT [.op .songEmptyPause]) 6 = true := by decide
theorem witness_SongPlaysInOrder : stateT.cfg.legal = true ∧ stateT.pins.romAck = true ∧
    (songOrder stateT)[0]? = some (0, 0) ∧ (songOrder stateT)[1]? = some (0, 1) ∧
    (songOrder stateT)[2]? = some (1, 0) ∧ (songOrder stateT)[3]? = none := by decide
theorem witness_PassedIsHalfRangeTest : 1 ≤ stateT.cfg.clkW ∧ 0x80000000 < 2 ^ stateT.cfg.clkW ∧
    0 < 2 ^ stateT.cfg.clkW ∧ 0x80000000 = (0 + 2 ^ (stateT.cfg.clkW - 1)) % 2 ^ stateT.cfg.clkW := by decide
theorem witness_InitSetsDeadlines : stateT.cfg.legal = true ∧ stateT.pins.romAck = true ∧ stateT.clockKept = true ∧
    { stateT with lastSample := some 777 }.clockKept = true := by decide
theorem witness_IllegalParametersRefused : { stateT with cfg := { cfgT with k := 0 } }.cfg.legal = false := by decide
theorem witness_PaletteWordWritesEntry : (14 : BitVec 4) ≠ { stateT with palIdx := 15 }.palIdx := by decide

/-- The schedule of a quiet iteration: no request, both samples before the deadlines. -/
def quietT : State :=
  { stateT with
    stimulus := [acceptingPins 0, acceptingPins 0, acceptingPins 0, acceptingPins 999, acceptingPins 1999]
    lastSample := some 998
    videoDl := 1000
    audioDl := 2000 }

theorem witness_QuietIteration : quietT.todo = [] ∧ quietT.phase = .poll ∧
    quietT.stimulus =
      acceptingPins 0 :: acceptingPins 0 :: acceptingPins 0 :: acceptingPins 999 :: acceptingPins 1999 :: [] ∧
    ((acceptingPins 0).rst = false ∧ (acceptingPins 999).rst = false ∧ (acceptingPins 1999).rst = false) ∧
    (acceptingPins 0).muteN = true ∧ (acceptingPins 0).unmuteN = true ∧
    (quietT.lastSample = some 998 ∧ clockDuty quietT.cfg 998 (acceptingPins 999).msNow = true) ∧
    clockDuty quietT.cfg ((acceptingPins 999).msNow % 2 ^ quietT.cfg.clkW) (acceptingPins 1999).msNow = true ∧
    passedTest quietT.cfg ((acceptingPins 999).msNow % 2 ^ quietT.cfg.clkW) quietT.videoDl = false ∧
    passedTest quietT.cfg ((acceptingPins 1999).msNow % 2 ^ quietT.cfg.clkW) quietT.audioDl = false := by decide
theorem witness_MuteBeatsUnmute : (readyT [.request]).nextPins.rst = false ∧
    (readyT [.request]).todo = .request :: [] ∧ (readyT [.request]).mreq = false ∧ (readyT [.request]).ureq = false ∧
    { readyT [.request] with mreq := true, ureq := true }.mreq = true ∧
    { readyT [.request] with ureq := true }.ureq = true := by decide
theorem witness_MuteSilencesOnce : (readyT [.op .mute]).muted = false ∧ (readyT [.op .mute]).todo = .op .mute :: [] ∧
    accepts (readyT [.op .mute]) 6 = true ∧ stateT.muted = false ∧ stateT.clockKept = true ∧
    (readyT [.op .mute]).begin.clockKept = true ∧ { stateT with muted := true }.muted = true := by decide
theorem witness_UnmuteRestartsSong : stateT.muted = false ∧ { stateT with muted := true }.clockKept = true ∧
    { stateT with muted := true }.muted = true := by decide
theorem witness_VideoTickAdvancesFrame : stateT.clockKept = true ∧
    passedTest stateT.cfg (stateT.pins.msNow % 2 ^ stateT.cfg.clkW) { stateT with videoDl := 777 }.videoDl = true ∧
    passedTest stateT.cfg (stateT.pins.msNow % 2 ^ stateT.cfg.clkW) { stateT with videoDl := 778 }.videoDl = false := by
  decide
theorem witness_AudioTickRunsUpdate : stateT.clockKept = true ∧
    passedTest stateT.cfg (stateT.pins.msNow % 2 ^ stateT.cfg.clkW) { stateT with audioDl := 777 }.audioDl = true ∧
    passedTest stateT.cfg (stateT.pins.msNow % 2 ^ stateT.cfg.clkW) { stateT with audioDl := 778 }.audioDl = false := by
  decide
theorem witness_DeadlinesAccumulate : (readyT [.videoEnd]).nextPins.rst = false ∧
    (readyT [.videoEnd]).todo = .videoEnd :: [] ∧ (readyT [.audioEnd]).nextPins.rst = false ∧
    (readyT [.audioEnd]).todo = .audioEnd :: [] := by decide
/-- Successive due video ticks of two frames. -/
def ticksT (n : Nat) : State := { stateT with frameIdx := BitVec.ofNat 8 (n % 2) }

theorem witness_FrameCursorCycles : (ticksT 0).cfg.legal = true ∧ (ticksT 0).frameIdx.toNat < (ticksT 0).cfg.nf ∧
    (∀ n, (ticksT n).cfg = (ticksT 0).cfg ∧
      passedTest (ticksT n).cfg ((ticksT n).pins.msNow % 2 ^ (ticksT n).cfg.clkW) (ticksT n).videoDl = true ∧
      ∃ u, exec .videoTick (ticksT n) = .next u ∧ (ticksT (n + 1)).frameIdx = u.frameIdx) ∧
    0 < 1 ∧ 1 < (ticksT 0).cfg.nf := by
  have passed : passedTest stateT.cfg (stateT.pins.msNow % 2 ^ stateT.cfg.clkW) stateT.videoDl = true := by decide
  refine ⟨by decide, by decide, fun n => ⟨rfl, passed, ?_⟩, by decide, by decide⟩
  rcases Nat.mod_two_eq_zero_or_one n with h | h
  · rw [show ticksT n = ticksT 0 by simp [ticksT, h],
      show ticksT (n + 1) = ticksT 1 by simp [ticksT, show (n + 1) % 2 = 1 by omega]]
    exact ⟨_, rfl, by decide⟩
  · rw [show ticksT n = ticksT 1 by simp [ticksT, h],
      show ticksT (n + 1) = ticksT 0 by simp [ticksT, show (n + 1) % 2 = 0 by omega]]
    exact ⟨_, rfl, by decide⟩
theorem witness_RegistersKeepRanges : agendaOk (readyT [.op .advance]) ∧ cursorsOk (readyT [.op .advance]) ∧
    registersOk (readyT [.op .advance]) ∧ isNext (step (readyT [.op .advance])) = true := by decide
theorem witness_CursorStaysPlayable : agendaOk { readyT [.storeCursor] with retNext := ⟨1, 0⟩ } ∧
    cursorsOk { readyT [.storeCursor] with retNext := ⟨1, 0⟩ } ∧
    part (fun t => t.seqPos) (step { readyT [.storeCursor] with retNext := ⟨1, 0⟩ }) = some 1 := by decide
theorem witness_StepsNeverFail : agendaOk (readyT [.op (.decodeFrame 1), .videoEnd, .op .audioTick]) ∧
    dutyKept (readyT [.op (.decodeFrame 1), .videoEnd, .op .audioTick]) = true ∧
    agendaOk { readyT [.op .videoTick] with lastSample := some 1 } ∧
    dutyKept { readyT [.op .videoTick] with lastSample := some 1 } = false := by decide
theorem witness_SilenceScheduled : silenceOk { readyT [.op .audioTick] with muted := true } ∧
    isNext (step { readyT [.op .audioTick] with muted := true }) = true := by decide
theorem witness_SilenceWhileMuted : silenceOk { readyT [.op (.sndSet 0 0)] with muted := true } ∧
    { readyT [.op (.sndSet 0 0)] with muted := true }.muted = true ∧
    isNext (step { readyT [.op (.sndSet 0 0)] with muted := true }) = true := by decide
theorem witness_StatusSticky : (readyT [.op (.durLookup 255)]).nextPins.rst = false ∧
    (readyT [.op (.durLookup 255)]).status.getLsbD 7 = false ∧
    part (fun t => t.status) (step { readyT [.op (.durLookup 255)] with status := 1 }) = some 9 := by decide
theorem witness_StatusNeverRead : isNext (step (readyT [.op (.durLookup 255)])) = true ∧
    (readyT [.op (.durLookup 255)]).nextPins.rst = false ∧
    isNext (step { readyT [] with stimulus := [{ acceptingPins 0 with rst := true }] }) = true ∧
    { readyT [] with stimulus := [{ acceptingPins 0 with rst := true }] }.nextPins.rst = true ∧
    step (readyT [.op .dispReserved]) = .fault .reservedDisplayCommand ∧
    step { readyT [.op .videoTick] with lastSample := some 1 } = .refused .clockAssumption ∧
    { readyT [] with status := 0x7F }.flagged .romRange = true ∧
    part (fun t => t.flagged .romRange)
      (step { readyT [] with status := 0x7F, stimulus := [{ acceptingPins 0 with rst := true }] }) = some false :=
  ⟨by decide, by decide, by decide, by decide, rfl, rfl, by decide, by decide⟩
theorem witness_VideoAudioIndependent : isNext (runTask (.op .videoTick) stateT) = true ∧
    isVideoTask (.op .videoTick) = true ∧ isNext (runTask (.setRow 1) stateT) = true ∧ isVideoTask (.setRow 1) = true ∧
    isNext (runTask (.op .advance) stateT) = true ∧ isAudioTask (.op .advance) = true ∧
    isNext (runTask .audioEnd stateT) = true ∧ isAudioTask .audioEnd = true := by decide
theorem witness_RegisterWriters : (readyT [.op .videoTick]).nextPins.rst = false ∧
    part (fun t => (t.frameIdx, t.now)) (step { readyT [.op .videoTick] with now := 5 }) = some (1, 0) ∧
    (readyT [.word 16 0x3002]).nextPins.rst = false ∧
    part (fun t => (t.x, t.curP)) (step (readyT [.word 16 0x3002])) = some (2, 3) ∧
    part (fun t => t.row) (step (readyT [.setRow 1])) = some 1 ∧
    part (fun t => t.flagged .durBad) (step (readyT [.op (.durLookup 255)])) = some true := by decide
theorem witness_ResetMeetsInvariants : cfgT.legal = true := by decide

end Sys2Proof.Tests
end

section
/-! The decoder at the ROM channels: one equation per format for a word within the format's width (R80), the
fields of a run word, and the value of two bytes. -/

namespace Sys2Proof

/-! ### What a word within its format's width decodes to -/

theorem decode_run {w : Nat} (h : w < 2 ^ Channel.run.width) :
    decode .run w = .ok (decodeRun (BitVec.ofNat 16 w)) := if_neg (Nat.not_le.2 h)

theorem decode_pal {w : Nat} (h : w < 2 ^ Channel.pal.width) :
    decode .pal w = .ok (decodePal (BitVec.ofNat 32 w)) := if_neg (Nat.not_le.2 h)

theorem decode_fdir {w : Nat} (h : w < 2 ^ Channel.fdir.width) :
    decode .fdir w = .ok (decodeFdir (BitVec.ofNat 64 w)) := if_neg (Nat.not_le.2 h)

theorem decode_mdir {w : Nat} (h : w < 2 ^ Channel.mdir.width) :
    decode .mdir w = .ok (decodeMdir (BitVec.ofNat 64 w)) := if_neg (Nat.not_le.2 h)

theorem decode_note {w : Nat} (h : w < 2 ^ Channel.note.width) :
    decode .note w = .ok (decodeNote (BitVec.ofNat 32 w)) := if_neg (Nat.not_le.2 h)

theorem decode_seq {w : Nat} (h : w < 2 ^ Channel.seq.width) :
    decode .seq w = .ok (.seq (BitVec.ofNat 8 w)) := if_neg (Nat.not_le.2 h)

theorem decode_dur {w : Nat} (h : w < 2 ^ Channel.dur.width) :
    decode .dur w = .ok (.dur (BitVec.ofNat 16 w)) := if_neg (Nat.not_le.2 h)

/-- No ROM encoding is illegal (R82, R95): only the port channels have a test besides the width. -/
theorem decode_rom_wellFormed {c : Channel} {w : Nat} (hdisp : c ≠ .disp) (hsnd : c ≠ .snd) (hrearm : c ≠ .rearm)
    (hw : w < 2 ^ c.width) : ∃ i, decode c w = .ok i ∧ i.wellFormed = true := by
  cases c with
  | run => exact ⟨_, decode_run hw, rfl⟩
  | pal => exact ⟨_, decode_pal hw, rfl⟩
  | fdir => exact ⟨_, decode_fdir hw, rfl⟩
  | mdir => exact ⟨_, decode_mdir hw, rfl⟩
  | note => exact ⟨_, decode_note hw, rfl⟩
  | seq => exact ⟨_, decode_seq hw, rfl⟩
  | dur => exact ⟨_, decode_dur hw, rfl⟩
  | disp => exact absurd rfl hdisp
  | snd => exact absurd rfl hsnd
  | rearm => exact absurd rfl hrearm

/-! ### The fields of a run word and the value of its bytes -/

/-- Bits 15 to 12 of a 16-bit word are its quotient by `2 ^ 12`. -/
theorem toNat_runIndex {w : Nat} (h : w < 2 ^ 16) :
    ((BitVec.ofNat 16 w).extractLsb' 12 4).toNat = w / 2 ^ 12 := by
  rw [BitVec.extractLsb'_toNat, BitVec.toNat_ofNat, Nat.mod_eq_of_lt h, Nat.shiftRight_eq_div_pow]
  exact Nat.mod_eq_of_lt (by omega)

/-- Bits 11 to 0 of a 16-bit word are its remainder by `2 ^ 12`. -/
theorem toNat_runLength {w : Nat} (h : w < 2 ^ 16) :
    ((BitVec.ofNat 16 w).extractLsb' 0 12).toNat = w % 2 ^ 12 := by
  rw [BitVec.extractLsb'_toNat, BitVec.toNat_ofNat, Nat.mod_eq_of_lt h, Nat.shiftRight_zero]

theorem littleEndian_pair (lo hi : Byte) : littleEndian [lo, hi] = lo.toNat + 256 * hi.toNat := rfl

/-- Settles O3: the ROM channels by `decode_rom_wellFormed`, the run word by the two field lemmas. -/
theorem everyRomWordDecodes : Obligations.EveryRomWordDecodes := by
  unfold Obligations.EveryRomWordDecodes
  refine ⟨fun c w => decode_rom_wellFormed, fun w hw => ?runWord, fun lo hi => ?bytes, rfl⟩
  case runWord => exact ⟨_, _, decode_run hw, toNat_runIndex hw, toNat_runLength hw⟩
  case bytes => rw [decodeBytes, littleEndian_pair]

end Sys2Proof
end

section
/-! `STATUS` is written and never read (R203). Or-ing a mask into `STATUS` before an operation is the same as or-ing it
in after: every operation commutes with `State.orStatus`, and commuting composes, so one equation per operation
carries up to `step`. -/

namespace Sys2Proof.Machine

/-- `s` with the bits of `v` or-ed into `STATUS`. -/
def State.orStatus (s : State) (v : BitVec 8) : State := { s with status := s.status ||| v }

/-- `orStatus` on what a step answers; a fault or a refusal holds no state. -/
def Result.orStatus (r : Result) (v : BitVec 8) : Result :=
  match r with
  | .next s => .next (s.orStatus v)
  | .fault f => .fault f
  | .refused e => .refused e

section
variable (s : State) (v : BitVec 8)

/-- Any value of `STATUS` is that value or-ed into an empty `STATUS`. -/
theorem setStatus_eq_orStatus : { s with status := v } = { s with status := 0 }.orStatus v := by
  simp [State.orStatus]

/-! ### What `orStatus` leaves unchanged -/

@[simp] theorem State.orStatus_cfg : (s.orStatus v).cfg = s.cfg := rfl
@[simp] theorem State.orStatus_pins : (s.orStatus v).pins = s.pins := rfl
@[simp] theorem State.orStatus_clockKept : (s.orStatus v).clockKept = s.clockKept := rfl
@[simp] theorem State.orStatus_muted : (s.orStatus v).muted = s.muted := rfl
@[simp] theorem State.orStatus_mreq : (s.orStatus v).mreq = s.mreq := rfl
@[simp] theorem State.orStatus_ureq : (s.orStatus v).ureq = s.ureq := rfl
@[simp] theorem State.orStatus_rem : (s.orStatus v).rem = s.rem := rfl
@[simp] theorem State.orStatus_rp : (s.orStatus v).rp = s.rp := rfl
@[simp] theorem State.orStatus_x : (s.orStatus v).x = s.x := rfl
@[simp] theorem State.orStatus_palIdx : (s.orStatus v).palIdx = s.palIdx := rfl
@[simp] theorem State.orStatus_retMeas : (s.orStatus v).retMeas = s.retMeas := rfl
@[simp] theorem State.orStatus_retFound : (s.orStatus v).retFound = s.retFound := rfl
@[simp] theorem State.orStatus_cnt : (s.orStatus v).cnt = s.cnt := rfl

/-! ### Flags and ROM reads -/

theorem State.flag_orStatus (f : Flag) : (s.orStatus v).flag f = (s.flag f).orStatus v := by
  simp only [State.flag, State.orStatus, BitVec.or_assoc, BitVec.or_comm v]

theorem State.flagIf_orStatus (b : Bool) (f : Flag) : (s.orStatus v).flagIf b f = (s.flagIf b f).orStatus v := by
  cases b with
  | false => rfl
  | true => exact s.flag_orStatus v f

/-- A byte read answers the same whatever `STATUS` holds, and flags the same (R53). -/
theorem State.romByte_orStatus (a : Nat) :
    (s.orStatus v).romByte a = ((s.romByte a).1, (s.romByte a).2.orStatus v) := by
  unfold State.romByte
  rw [State.orStatus_cfg, State.flag_orStatus]
  split <;> rfl

/-- A read answers the same whatever `STATUS` holds, and flags the same (R52, R53). -/
theorem State.memRead_orStatus (n a : Nat) :
    (s.orStatus v).memRead a n = ((s.memRead a n).1, (s.memRead a n).2.orStatus v) := by
  induction n generalizing a s with
  | zero => rfl
  | succ n ih => simp only [State.memRead, State.romByte_orStatus, ih]

/-! ### The audio sequencer -/

theorem State.push_orStatus (ts : List Task) : (s.orStatus v).push ts = (s.push ts).orStatus v := rfl

theorem State.mdirWord_orStatus (a : Addr) (n : BitVec 8) :
    (s.orStatus v).mdirWord a n = (s.mdirWord a n).orStatus v := rfl

theorem State.readMdir_orStatus (m : BitVec 8) : (s.orStatus v).readMdir m = (s.readMdir m).orStatus v := by
  simp only [State.readMdir, State.orStatus_cfg, State.memRead_orStatus, State.mdirWord_orStatus]

theorem State.seqWord_orStatus (m : BitVec 8) : (s.orStatus v).seqWord m = (s.seqWord m).orStatus v := by
  unfold State.seqWord
  rw [State.orStatus_cfg, State.flag_orStatus, State.readMdir_orStatus]
  split <;> rfl

theorem State.meas_orStatus (p : Nat) : (s.orStatus v).meas p = (s.meas p).orStatus v := by
  simp only [State.meas, State.orStatus_cfg, State.memRead_orStatus, State.seqWord_orStatus]

theorem State.scan_orStatus (n p i : Nat) : State.scan n p i (s.orStatus v) = (State.scan n p i s).orStatus v := by
  induction n generalizing p i s with
  | zero => rfl
  | succ n ih =>
    simp only [State.scan, State.meas_orStatus, State.orStatus_cnt, State.orStatus_cfg, ih]
    split <;> rfl

theorem State.normalise_orStatus (pos idx : BitVec 8) :
    (s.orStatus v).normalise pos idx = (s.normalise pos idx).orStatus v := s.scan_orStatus v _ _ _

theorem State.nextScan_orStatus (n q : Nat) :
    State.nextScan n q (s.orStatus v) = (State.nextScan n q s).orStatus v := by
  induction n generalizing q s with
  | zero => rfl
  | succ n ih =>
    simp only [State.nextScan, State.meas_orStatus, State.orStatus_cnt, ih]
    split <;> rfl

theorem State.nextNote_orStatus (p i : BitVec 8) : (s.orStatus v).nextNote p i = (s.nextNote p i).orStatus v := by
  simp only [State.nextNote, State.meas_orStatus, State.orStatus_cnt, State.orStatus_cfg, State.nextScan_orStatus]
  split <;> rfl

theorem State.readDur_orStatus (c : BitVec 8) : (s.orStatus v).readDur c = (s.readDur c).orStatus v := by
  simp only [State.readDur, State.orStatus_cfg, State.memRead_orStatus]
  rfl

theorem State.durLookup_orStatus (c : BitVec 8) : (s.orStatus v).durLookup c = (s.durLookup c).orStatus v := by
  unfold State.durLookup
  rw [State.orStatus_cfg, State.flag_orStatus, State.readDur_orStatus]
  split <;> rfl

theorem State.playNote_orStatus (c : Cursor) : (s.orStatus v).playNote c = (s.playNote c).orStatus v := by
  simp only [State.playNote, State.meas_orStatus, State.orStatus_retMeas, State.memRead_orStatus, State.push_orStatus]

theorem State.songEmptyPause_orStatus : (s.orStatus v).songEmptyPause = s.songEmptyPause.orStatus v := by
  simp only [State.songEmptyPause, State.flag_orStatus, State.push_orStatus]

/-- ADVANCE chooses between the pause and the note by NORMALISE's answer, which `STATUS` does not touch (R143). -/
theorem State.advance_orStatus : (s.orStatus v).advance = s.advance.orStatus v := by
  have found : (s.orStatus v).normalise (s.orStatus v).seqPos (s.orStatus v).noteIdx =
      (s.normalise s.seqPos s.noteIdx).orStatus v := s.normalise_orStatus v _ _
  unfold State.advance
  rw [found, State.orStatus_retFound]
  cases (s.normalise s.seqPos s.noteIdx).retFound with
  | none => exact State.songEmptyPause_orStatus _ v
  | some c => exact State.playNote_orStatus _ v c

/-! ### The frame decoder -/

theorem State.expandRun_orStatus : (s.orStatus v).expandRun = s.expandRun.orStatus v := by
  unfold State.expandRun
  rw [State.flagIf_orStatus]
  rfl

theorem State.runWord_orStatus (p : BitVec 4) (l : BitVec 12) :
    (s.orStatus v).runWord p l = (s.runWord p l).orStatus v :=
  State.expandRun_orStatus { s with curP := p, curL := l } v

theorem State.runNext_orStatus : (s.orStatus v).runNext = s.runNext.orStatus v := by
  simp only [State.runNext, State.orStatus_rp, State.memRead_orStatus]
  exact State.runWord_orStatus { (s.memRead s.rp.toNat 2).2 with rp := s.rp + 2, rem := s.rem - 1 } v _ _

theorem State.rowLoop_orStatus (fuel : Nat) :
    State.rowLoop fuel (s.orStatus v) = (State.rowLoop fuel s).orStatus v := by
  induction fuel generalizing s with
  | zero => rfl
  | succ fuel ih =>
    simp only [State.rowLoop, State.orStatus_x, State.orStatus_cfg, State.orStatus_rem, State.flag_orStatus,
      State.runNext_orStatus, ih]
    split
    · split <;> rfl
    · rfl

theorem State.decodeRow_orStatus : (s.orStatus v).decodeRow = s.decodeRow.orStatus v :=
  State.rowLoop_orStatus { s with x := 0 } v _

theorem State.fdirWord_orStatus (a n : BitVec 32) : (s.orStatus v).fdirWord a n = (s.fdirWord a n).orStatus v := rfl

theorem State.decodeFrame_orStatus (f : BitVec 8) : (s.orStatus v).decodeFrame f = (s.decodeFrame f).orStatus v := by
  simp only [State.decodeFrame, State.orStatus_cfg, State.memRead_orStatus, State.fdirWord_orStatus,
    State.push_orStatus]

theorem State.frameEnd_orStatus : (s.orStatus v).frameEnd = s.frameEnd.orStatus v := s.flagIf_orStatus v _ _

/-! ### The scheduler -/

theorem State.palWord_orStatus (r g b : BitVec 8) : (s.orStatus v).palWord r g b = (s.palWord r g b).orStatus v := rfl

theorem State.loadPalette_orStatus (n : Nat) :
    State.loadPalette n (s.orStatus v) = (State.loadPalette n s).orStatus v := by
  induction n generalizing s with
  | zero => rfl
  | succ n ih =>
    simp only [State.loadPalette, State.orStatus_cfg, State.orStatus_palIdx, State.memRead_orStatus,
      State.palWord_orStatus, ih]

/-- The rest of INIT commutes whatever state the palette loop leaves, so that state is generalised away. -/
theorem State.initialise_orStatus : (s.orStatus v).initialise = s.initialise.orStatus v := by
  have loaded : State.loadPalette 16 { s.orStatus v with palIdx := 0 } =
      (State.loadPalette 16 { s with palIdx := 0 }).orStatus v := State.loadPalette_orStatus { s with palIdx := 0 } v 16
  unfold State.initialise
  rw [loaded]
  generalize State.loadPalette 16 { s with palIdx := 0 } = t
  rfl

theorem State.request_orStatus : (s.orStatus v).request = s.request.orStatus v := by
  unfold State.request
  rw [State.orStatus_mreq, State.orStatus_ureq]
  split
  · rfl
  · split <;> rfl

theorem State.mute_orStatus : (s.orStatus v).mute = s.mute.orStatus v := by
  cases h : s.muted with
  | false => rw [mute_playing h, mute_playing (s := s.orStatus v) h]; rfl
  | true => rw [mute_muted h, mute_muted (s := s.orStatus v) h]; rfl

theorem State.unmute_orStatus : (s.orStatus v).unmute = s.unmute.orStatus v := by
  cases h : s.muted with
  | false => rw [unmute_playing h, unmute_playing (s := s.orStatus v) h]; rfl
  | true => rw [unmute_muted h, unmute_muted (s := s.orStatus v) h]; rfl

theorem State.videoTick_orStatus : (s.orStatus v).videoTick = s.videoTick.orStatus v := by
  cases h : passedTest s.cfg s.sampleClock.now s.videoDl with
  | false => rw [videoTick_ahead h, videoTick_ahead (s := s.orStatus v) h]; rfl
  | true => rw [videoTick_passed h, videoTick_passed (s := s.orStatus v) h]; rfl

theorem State.audioTick_orStatus : (s.orStatus v).audioTick = s.audioTick.orStatus v := by
  cases h : passedTest s.cfg s.sampleClock.now s.audioDl with
  | false => rw [audioTick_ahead h, audioTick_ahead (s := s.orStatus v) h]; rfl
  | true => rw [audioTick_passed h, audioTick_passed (s := s.orStatus v) h]; rfl

/-! ### Waiting and the ports -/

theorem State.withRom_orStatus (i : Instr) (go : State) :
    (s.orStatus v).withRom i (go.orStatus v) = Result.orStatus (s.withRom i go) v := by
  unfold State.withRom
  rw [State.orStatus_pins]
  split <;> rfl

theorem State.withClock_orStatus (go : State) :
    (s.orStatus v).withClock (go.orStatus v) = Result.orStatus (s.withClock go) v := by
  unfold State.withClock
  rw [State.orStatus_clockKept]
  split <;> rfl

theorem State.offerDisp_orStatus (i : Instr) (c : BitVec 2) (d : BitVec 64) :
    (s.orStatus v).offerDisp i c d = (s.offerDisp i c d).orStatus v := by
  unfold State.offerDisp
  rw [State.orStatus_pins]
  split <;> rfl

theorem State.offerSnd_orStatus (i : Instr) (c : BitVec 2) (f : BitVec 8) :
    (s.orStatus v).offerSnd i c f = (s.offerSnd i c f).orStatus v := by
  unfold State.offerSnd
  rw [State.orStatus_pins]
  split <;> rfl

/-! ### The rows that choose between an answer at once and a wait, a sample or a stop -/

theorem execSndSet_orStatus (c : BitVec 2) (f : BitVec 8) :
    execSndSet c f (s.orStatus v) = Result.orStatus (execSndSet c f s) v := by
  unfold execSndSet
  rw [State.offerSnd_orStatus]
  split <;> rfl

theorem execSeq_orStatus (m : BitVec 8) : execSeq m (s.orStatus v) = Result.orStatus (execSeq m s) v := by
  unfold execSeq
  rw [State.orStatus_cfg, State.seqWord_orStatus, State.withRom_orStatus]
  split <;> rfl

theorem execDurLookup_orStatus (c : BitVec 8) :
    execDurLookup c (s.orStatus v) = Result.orStatus (execDurLookup c s) v := by
  unfold execDurLookup
  rw [State.orStatus_cfg, State.durLookup_orStatus, State.withRom_orStatus]
  split <;> rfl

theorem execDecodeRow_orStatus : execDecodeRow (s.orStatus v) = Result.orStatus (execDecodeRow s) v := by
  unfold execDecodeRow
  rw [State.orStatus_rem, State.orStatus_cfg, State.decodeRow_orStatus, State.withRom_orStatus]
  split <;> rfl

theorem execInit_orStatus : execInit (s.orStatus v) = Result.orStatus (execInit s) v := by
  unfold execInit
  rw [State.orStatus_cfg, State.orStatus_pins, State.initialise_orStatus, State.withClock_orStatus]
  split
  · split <;> rfl
  · rfl

theorem execMute_orStatus : execMute (s.orStatus v) = Result.orStatus (execMute s) v := by
  unfold execMute
  rw [State.orStatus_muted, State.mute_orStatus, State.withClock_orStatus]
  split <;> rfl

theorem execUnmute_orStatus : execUnmute (s.orStatus v) = Result.orStatus (execUnmute s) v := by
  unfold execUnmute
  rw [State.orStatus_muted, State.unmute_orStatus, State.withClock_orStatus]
  split <;> rfl

/-! ### Every row, every sub-step, every step -/

/-- A row that always goes on commutes with `orStatus` when its effect does. -/
theorem next_orStatus {t t' : State} (h : t' = t.orStatus v) :
    (.next t' : Result) = Result.orStatus (.next t) v := congrArg _ h

/-- A row that waits for the ROM commutes with `orStatus` when its effect does. -/
theorem withRom_effect_orStatus {go go' : State} (i : Instr) (h : go' = go.orStatus v) :
    (s.orStatus v).withRom i go' = Result.orStatus (s.withRom i go) v := h ▸ s.withRom_orStatus v i go

/-- A row that samples the clock commutes with `orStatus` when its effect does. -/
theorem withClock_effect_orStatus {go go' : State} (h : go' = go.orStatus v) :
    (s.orStatus v).withClock go' = Result.orStatus (s.withClock go) v := h ▸ s.withClock_orStatus v go

/-- No row of the opcode table reads `STATUS` (R203). -/
theorem exec_orStatus (i : Instr) : exec i (s.orStatus v) = Result.orStatus (exec i s) v := by
  cases i with
  | run p l => exact next_orStatus v (s.runWord_orStatus v p l)
  | pal r g b => rfl
  | fdir a n => rfl
  | mdir a n => rfl
  | note f0 f1 f2 dc => rfl
  | seq m => exact execSeq_orStatus s v m
  | dur t => rfl
  | dispSetwin x0 y0 x1 y1 => exact next_orStatus v (s.offerDisp_orStatus v _ _ _)
  | dispBegin => exact next_orStatus v (s.offerDisp_orStatus v _ _ _)
  | dispPixel r g b => exact next_orStatus v (s.offerDisp_orStatus v _ _ _)
  | dispReserved => rfl
  | sndSet c f => exact execSndSet_orStatus s v c f
  | inRearm => rfl
  | init => exact execInit_orStatus s v
  | iterate => rfl
  | pollInput => rfl
  | mute => exact execMute_orStatus s v
  | unmute => exact execUnmute_orStatus s v
  | videoTick => exact withClock_effect_orStatus s v (s.videoTick_orStatus v)
  | decodeFrame f => exact withRom_effect_orStatus s v _ (s.decodeFrame_orStatus v f)
  | decodeRow => exact execDecodeRow_orStatus s v
  | expandRun => exact next_orStatus v (s.expandRun_orStatus v)
  | renderLine r => rfl
  | audioTick => exact withClock_effect_orStatus s v (s.audioTick_orStatus v)
  | advance => exact withRom_effect_orStatus s v _ (s.advance_orStatus v)
  | meas p => exact withRom_effect_orStatus s v _ (s.meas_orStatus v p.toNat)
  | normalise pos idx => exact withRom_effect_orStatus s v _ (s.normalise_orStatus v pos idx)
  | next p i => exact withRom_effect_orStatus s v _ (s.nextNote_orStatus v p i)
  | durLookup c => exact execDurLookup_orStatus s v c
  | mutedFallback => rfl
  | songEmptyPause => exact next_orStatus v (s.songEmptyPause_orStatus v)
  | passed now dl => rfl

/-- A word at the sequencer is decoded from its bits alone, and then runs as a row. -/
theorem runWordTask_orStatus (nbits w : Nat) :
    runWordTask nbits w (s.orStatus v) = Result.orStatus (runWordTask nbits w s) v := by
  unfold runWordTask
  cases decodeTableWord nbits w with
  | none => rfl
  | some i => exact exec_orStatus s v i

/-- No sub-step reads `STATUS` (R203). -/
theorem runTask_orStatus (t : Task) : runTask t (s.orStatus v) = Result.orStatus (runTask t s) v := by
  cases t with
  | op i => exact exec_orStatus s v i
  | word nbits w => exact runWordTask_orStatus s v nbits w
  | setRow r => rfl
  | frameEnd => exact next_orStatus v (s.frameEnd_orStatus v)
  | videoEnd => rfl
  | storeCursor => rfl
  | clearCursor => rfl
  | returnFallback => rfl
  | audioEnd => rfl
  | muteEnd => rfl
  | request => exact next_orStatus v (s.request_orStatus v)

/-- A step without reset commutes with `orStatus`: nothing it does depends on `STATUS` (R203). -/
theorem step_orStatus {s : State} (hr : s.nextPins.rst = false) (v : BitVec 8) :
    step (s.orStatus v) = Result.orStatus (step s) v := by
  cases ht : s.todo with
  | nil =>
    rw [step_begins hr ht, step_begins (s := s.orStatus v) hr ht]
    exact exec_orStatus s.begin v (nextOperation s.phase)
  | cons t rest =>
    rw [step_runs hr ht, step_runs (s := s.orStatus v) hr ht]
    exact runTask_orStatus { s.begin with todo := rest } v t

end

/-- A step under reset answers one state, whatever `STATUS` held (R230). -/
theorem step_reset_setStatus {s : State} (hr : s.nextPins.rst = true) (v : BitVec 8) :
    step { s with status := v } = step s :=
  (step_resets (s := { s with status := v }) hr).trans (step_resets hr).symm

/-- Without reset a step answers what it answers with an empty `STATUS`, with the old flags or-ed in (R203). -/
theorem step_setStatus {s : State} (hr : s.nextPins.rst = false) (v : BitVec 8) :
    step { s with status := v } = Result.orStatus (step { s with status := 0 }) v := by
  rw [setStatus_eq_orStatus]
  exact step_orStatus (s := { s with status := 0 }) hr v

/-! ### The mask of flags a step sets -/

theorem Result.orStatus_eq_next {r : Result} {v : BitVec 8} {s' : State} (h : r.orStatus v = .next s') :
    ∃ t, r = .next t ∧ s' = t.orStatus v := by
  cases r with
  | next t => cases h; exact ⟨t, rfl, rfl⟩
  | fault f => cases h
  | refused e => cases h

theorem Result.orStatus_of_stop {r : Result} {v : BitVec 8} (h : ∀ t, r.orStatus v ≠ .next t) (w : BitVec 8) :
    r.orStatus w = r.orStatus v := by
  cases r with
  | next t => exact absurd rfl (h _)
  | fault f => rfl
  | refused e => rfl

/-- The mask is what the step leaves in an empty `STATUS`; with any other value it is or-ed in, and nothing else of the
next state differs (R203). -/
theorem step_ors_mask {s s' : State} (hr : s.nextPins.rst = false) (h : step s = .next s') :
    ∃ m : BitVec 8, s'.status = s.status ||| m ∧
      ∀ v : BitVec 8, step { s with status := v } = .next { s' with status := v ||| m } := by
  have fromEmpty : Result.orStatus (step { s with status := 0 }) s.status = .next s' :=
    (step_setStatus hr s.status).symm.trans h
  obtain ⟨t, ht, rfl⟩ := Result.orStatus_eq_next fromEmpty
  refine ⟨t.status, BitVec.or_comm _ _, fun v => ?_⟩
  rw [step_setStatus hr, ht, BitVec.or_comm v]
  rfl

/-- A step that answers no next state stops the same way with any `STATUS`; under reset none stops (R203). -/
theorem step_stop_setStatus {s : State} (h : ∀ t, step s ≠ .next t) (v : BitVec 8) :
    step { s with status := v } = step s := by
  cases hr : s.nextPins.rst with
  | true => exact absurd (step_resets hr) (h _)
  | false =>
    have fromEmpty : step s = Result.orStatus (step { s with status := 0 }) s.status := step_setStatus hr s.status
    rw [step_setStatus hr, fromEmpty]
    exact Result.orStatus_of_stop (fromEmpty ▸ h) v

theorem step_reset_status {s s' : State} (hr : s.nextPins.rst = true) (h : step s = .next s') : s'.status = 0 := by
  rw [step_resets hr] at h
  cases h
  rfl

theorem flagged_of_status_zero {s : State} (h : s.status = 0) (f : Flag) : s.flagged f = false := by
  simp [State.flagged, h]

/-- Or-ing a mask into `STATUS` clears no flag. -/
theorem flagged_of_status_or {s s' : State} {m : BitVec 8} {f : Flag} (hm : s'.status = s.status ||| m)
    (hf : s.flagged f = true) : s'.flagged f = true := by
  rw [State.flagged] at hf ⊢
  rw [hm, BitVec.getLsbD_or, hf, Bool.true_or]

/-- Settles O57: without reset by `step_ors_mask`, under reset by the reset state's empty `STATUS`. -/
theorem statusNeverRead : Obligations.StatusNeverRead := by
  unfold Obligations.StatusNeverRead
  refine ⟨fun s s' h => ⟨fun hr => step_ors_mask hr h, fun hr => ?reset⟩, fun s v => ?stops, fun s s' f h => ?cleared⟩
  case reset => exact ⟨step_reset_status hr h, fun v => (step_reset_setStatus hr v).trans h⟩
  case stops =>
    exact ⟨fun f h => (step_stop_setStatus (by simp [h]) v).trans h,
      fun e h => (step_stop_setStatus (by simp [h]) v).trans h⟩
  case cleared =>
    refine ⟨fun hr => flagged_of_status_zero (step_reset_status hr h) f, fun was now => ?_⟩
    cases hr : s.nextPins.rst with
    | true => rfl
    | false =>
      obtain ⟨m, hm, -⟩ := step_ors_mask hr h
      rw [flagged_of_status_or hm was] at now
      cases now

end Sys2Proof.Machine
end

section
/-! The reset state under any parameter assignment: the registers R231 gives a value, and the outputs (R230). -/

namespace Sys2Proof.Machine

/-- The rows of R231's table that give a value. -/
theorem resetWith_registers (c : Params) :
    (State.resetWith c).phase = .init ∧ (State.resetWith c).frameIdx = 0 ∧ (State.resetWith c).muted = false ∧
      (State.resetWith c).seqPos = 0 ∧ (State.resetWith c).noteIdx = 0 ∧ (State.resetWith c).status = 0x00 :=
  ⟨rfl, rfl, rfl, rfl, rfl, rfl⟩

/-- Reset offers no transaction, strobes no re-arm and requests no ROM read (R230). -/
theorem resetWith_outputs_idle (c : Params) :
    (State.resetWith c).dispValid = false ∧ (State.resetWith c).sndValid = false ∧
      (State.resetWith c).rearm = false ∧ (State.resetWith c).romReq = false :=
  ⟨rfl, rfl, rfl, rfl⟩

/-- The state after reset is the reset state of the built block's parameters, so it is one of the family. -/
theorem exists_eq_resetWith {s : State} (h : s = State.reset ∨ ∃ c, s = State.resetWith c) :
    ∃ c, s = State.resetWith c := by
  obtain hs | hs := h
  · exact ⟨Config.built, hs⟩
  · exact hs

/-- Settles O8: both reset states are `State.resetWith` at some parameters, whose registers and outputs are known. -/
theorem resetValues : Obligations.ResetValues := by
  unfold Obligations.ResetValues
  intro s hs
  obtain ⟨c, rfl⟩ := exists_eq_resetWith hs
  obtain ⟨hphase, hframe, hmuted, hseq, hnote, hstatus⟩ := resetWith_registers c
  exact ⟨hphase, hframe, hmuted, hseq, hnote, hstatus, resetWith_outputs_idle c⟩

end Sys2Proof.Machine
end

section
/-! The encoder and the decoder undo each other (30_encoding.md): for each format one equation each way between the
fields and the word, and for the port channels what a word within the width decodes to. -/

namespace Sys2Proof

open Sys2Proof.Laws

/-! ### The port channels -/

theorem decode_disp {w : Nat} (h : w < 2 ^ Channel.disp.width) :
    decode .disp w = decodeDisp (BitVec.ofNat 2 (w / 2 ^ 64)) (BitVec.ofNat 64 w) := if_neg (Nat.not_le.2 h)

theorem decode_snd {w : Nat} (h : w < 2 ^ Channel.snd.width) :
    decode .snd w = decodeSnd (BitVec.ofNat 2 (w / 2 ^ 8)) (BitVec.ofNat 8 w) := if_neg (Nat.not_le.2 h)

theorem decode_rearm {w : Nat} (h : w < 2 ^ Channel.rearm.width) :
    decode .rearm w = if w = 1 then .ok .inRearm else .error .noStrobe := if_neg (Nat.not_le.2 h)

/-- Only a word within its format's width decodes (R80). -/
theorem lt_of_decode_ok {c : Channel} {w : Nat} {i : Instr} (h : decode c w = .ok i) : w < 2 ^ c.width := by
  by_contra hw
  have hwide : decode c w = .error .tooWide := if_pos (Nat.not_lt.1 hw)
  rw [hwide] at h
  cases h

/-- The command and the payload of a display word are its two parts. -/
theorem dispWord_split {w : Nat} (h : w < 2 ^ 66) :
    dispWord (BitVec.ofNat 2 (w / 2 ^ 64)) (BitVec.ofNat 64 w) = w := by
  rw [dispWord, BitVec.toNat_ofNat, BitVec.toNat_ofNat]
  omega

theorem dispWord_lt (cmd : BitVec 2) (data : BitVec 64) : dispWord cmd data < 2 ^ 66 := by
  rw [dispWord]
  omega

/-- A display word decodes as the command and the payload it is made of. -/
theorem decode_dispWord (cmd : BitVec 2) (data : BitVec 64) :
    decode .disp (dispWord cmd data) = decodeDisp cmd data := by
  have hcmd : BitVec.ofNat 2 (dispWord cmd data / 2 ^ 64) = cmd := by
    apply BitVec.eq_of_toNat_eq
    rw [BitVec.toNat_ofNat, dispWord]
    omega
  have hdata : BitVec.ofNat 64 (dispWord cmd data) = data := by
    apply BitVec.eq_of_toNat_eq
    rw [BitVec.toNat_ofNat, dispWord]
    omega
  rw [decode_disp (dispWord_lt cmd data), hcmd, hdata]

/-- A sound word is its voice times `2 ^ 8` plus its value. -/
theorem toNat_voice_append (v : BitVec 2) (f : BitVec 8) : (v ++ f).toNat = v.toNat * 2 ^ 8 + f.toNat := by
  rw [BitVec.toNat_append, ← Nat.shiftLeft_add_eq_or_of_lt f.isLt, Nat.shiftLeft_eq]

/-- A sound word decodes as the voice and the value it is made of. -/
theorem decode_sndWord (v : BitVec 2) (f : BitVec 8) : decode .snd (v ++ f).toNat = decodeSnd v f := by
  have hv : BitVec.ofNat 2 ((v ++ f).toNat / 2 ^ 8) = v := by
    apply BitVec.eq_of_toNat_eq
    rw [BitVec.toNat_ofNat, toNat_voice_append]
    omega
  have hf : BitVec.ofNat 8 (v ++ f).toNat = f := by
    apply BitVec.eq_of_toNat_eq
    rw [BitVec.toNat_ofNat, toNat_voice_append]
    omega
  rw [decode_snd (v ++ f).isLt, hv, hf]

/-! ### The fields of a word put together from them -/

theorem decodeRun_append (p : BitVec 4) (l : BitVec 12) : decodeRun (p ++ l) = .run p l := by
  rw [decodeRun, BitVec.extractLsb'_append_eq_left, BitVec.extractLsb'_append_eq_right]

theorem decodePal_append (z r g b : BitVec 8) : decodePal (z ++ r ++ g ++ b) = .pal r g b := by
  simp (disch := decide) only [decodePal, BitVec.extractLsb'_append_eq_of_le, BitVec.extractLsb'_append_eq_of_add_le,
    Nat.reduceSub, BitVec.extractLsb'_eq_self]

theorem decodeFdir_append (a n : BitVec 32) : decodeFdir (n ++ a) = .fdir a n := by
  rw [decodeFdir, BitVec.extractLsb'_append_eq_left, BitVec.extractLsb'_append_eq_right]

theorem decodeMdir_append (z : BitVec 24) (a : BitVec 32) (n : BitVec 8) : decodeMdir (z ++ n ++ a) = .mdir a n := by
  simp (disch := decide) only [decodeMdir, BitVec.extractLsb'_append_eq_of_le,
    BitVec.extractLsb'_append_eq_of_add_le, Nat.reduceSub, BitVec.extractLsb'_eq_self]

theorem decodeNote_append (f0 f1 f2 dc : BitVec 8) : decodeNote (dc ++ f2 ++ f1 ++ f0) = .note f0 f1 f2 dc := by
  simp (disch := decide) only [decodeNote, BitVec.extractLsb'_append_eq_of_le,
    BitVec.extractLsb'_append_eq_of_add_le, Nat.reduceSub, BitVec.extractLsb'_eq_self]

theorem decodeDisp_setwinData (x0 y0 x1 y1 : BitVec 16) :
    decodeDisp 0 (setwinData x0 y0 x1 y1) = .ok (.dispSetwin x0 y0 x1 y1) := by
  simp (disch := decide) only [decodeDisp, setwinData, if_true, BitVec.extractLsb'_append_eq_of_le,
    BitVec.extractLsb'_append_eq_of_add_le, Nat.reduceSub, BitVec.extractLsb'_eq_self]

/-- The 40 bits of a pixel's payload above its colour are 0 (R92). -/
theorem extractLsb'_pixelData_high (r g b : BitVec 8) : (pixelData r g b).extractLsb' 24 40 = 0 := by
  simp (disch := decide) only [pixelData, BitVec.extractLsb'_append_eq_of_le, Nat.reduceSub,
    BitVec.extractLsb'_eq_self]

theorem decodeDisp_pixelData (r g b : BitVec 8) : decodeDisp 2 (pixelData r g b) = .ok (.dispPixel r g b) := by
  rw [decodeDisp, if_neg (by decide), if_neg (by decide), if_pos rfl, if_pos (extractLsb'_pixelData_high r g b)]
  simp (disch := decide) only [pixelData, BitVec.extractLsb'_append_eq_of_le,
    BitVec.extractLsb'_append_eq_of_add_le, Nat.reduceSub, BitVec.extractLsb'_eq_self]

/-- Settles O1: each format's word decodes at its channel to the row it was put together from. -/
theorem decodeOfEncode : Obligations.DecodeOfEncode := by
  unfold Obligations.DecodeOfEncode
  intro i c w hwf henc
  cases i with
  | run p l =>
    cases henc
    rw [decode_run (EncodeWidth.run p l _ _ rfl), BitVec.ofNat_toNat, BitVec.setWidth_eq, decodeRun_append]
  | pal r g b =>
    cases henc
    rw [decode_pal (EncodeWidth.pal r g b _ _ rfl), BitVec.ofNat_toNat, BitVec.setWidth_eq, decodePal_append]
  | fdir a n =>
    cases henc
    rw [decode_fdir (EncodeWidth.fdir a n _ _ rfl), BitVec.ofNat_toNat, BitVec.setWidth_eq, decodeFdir_append]
  | mdir a n =>
    cases henc
    rw [decode_mdir (EncodeWidth.mdir a n _ _ rfl), BitVec.ofNat_toNat, BitVec.setWidth_eq, decodeMdir_append]
  | note f0 f1 f2 dc =>
    cases henc
    rw [decode_note (EncodeWidth.note f0 f1 f2 dc _ _ rfl), BitVec.ofNat_toNat, BitVec.setWidth_eq,
      decodeNote_append]
  | seq m =>
    cases henc
    rw [decode_seq (EncodeWidth.seq m _ _ rfl), BitVec.ofNat_toNat, BitVec.setWidth_eq]
  | dur t =>
    cases henc
    rw [decode_dur (EncodeWidth.dur t _ _ rfl), BitVec.ofNat_toNat, BitVec.setWidth_eq]
  | dispSetwin x0 y0 x1 y1 => cases henc; rw [decode_dispWord, decodeDisp_setwinData]
  | dispBegin => cases henc; rw [decode_dispWord]; rfl
  | dispPixel r g b => cases henc; rw [decode_dispWord, decodeDisp_pixelData]
  | dispReserved => cases hwf
  | sndSet v f =>
    have hvoice : v ≠ 3 := by rintro rfl; exact absurd hwf (by simp [Instr.wellFormed])
    cases henc
    rw [decode_sndWord, decodeSnd, if_neg hvoice]
  | inRearm => cases henc; rfl
  | _ => cases henc

/-! ### The word put together from a word's fields -/

theorem encode_decodeRun (x : BitVec 16) : encode (decodeRun x) = some (.run, x.toNat) := by
  rw [decodeRun, encode, BitVec.extractLsb'_append_extractLsb']

theorem encode_decodeFdir (x : BitVec 64) : encode (decodeFdir x) = some (.fdir, x.toNat) := by
  rw [decodeFdir, encode, BitVec.extractLsb'_append_extractLsb']

/-- Bytes 0 to 3 of a note record, the highest first, are the record. -/
theorem append_noteBytes (x : BitVec 32) :
    x.extractLsb' 24 8 ++ x.extractLsb' 16 8 ++ x.extractLsb' 8 8 ++ x.extractLsb' 0 8 = x := by
  rw [BitVec.extractLsb'_append_extractLsb'_eq_extractLsb' (by rfl),
    BitVec.extractLsb'_append_extractLsb'_eq_extractLsb' (by rfl),
    BitVec.extractLsb'_append_extractLsb'_eq_extractLsb' (by rfl), BitVec.extractLsb'_eq_self]

theorem encode_decodeNote (x : BitVec 32) : encode (decodeNote x) = some (.note, x.toNat) := by
  rw [decodeNote, encode, append_noteBytes]

/-- Zero bits above a number leave its value. -/
theorem toNat_zero_append {n : Nat} (m : Nat) (x : BitVec n) : ((0 : BitVec m) ++ x).toNat = x.toNat := by
  simp

/-- The ignored byte of a palette word comes back as 0 (R83, R95). -/
theorem encode_decodePal (x : BitVec 32) : encode (decodePal x) = some (.pal, x.toNat % 2 ^ 24) := by
  have colour : x.extractLsb' 16 8 ++ x.extractLsb' 8 8 ++ x.extractLsb' 0 8 = x.extractLsb' 0 24 := by
    rw [BitVec.extractLsb'_append_extractLsb'_eq_extractLsb' (by rfl),
      BitVec.extractLsb'_append_extractLsb'_eq_extractLsb' (by rfl)]
  have word : (0 : BitVec 8) ++ x.extractLsb' 16 8 ++ x.extractLsb' 8 8 ++ x.extractLsb' 0 8 =
      (0 : BitVec 8) ++ x.extractLsb' 0 24 := by
    rw [BitVec.append_assoc (x₁ := (0 : BitVec 8)), BitVec.cast_eq, BitVec.append_assoc (x₁ := (0 : BitVec 8)),
      BitVec.cast_eq, colour]
  rw [decodePal, encode, word, toNat_zero_append, BitVec.extractLsb'_toNat, Nat.shiftRight_zero]

/-- The ignored bytes of a measure directory entry come back as 0 (R85, R95). -/
theorem encode_decodeMdir (x : BitVec 64) : encode (decodeMdir x) = some (.mdir, x.toNat % 2 ^ 40) := by
  have entry : x.extractLsb' 32 8 ++ x.extractLsb' 0 32 = x.extractLsb' 0 40 :=
    BitVec.extractLsb'_append_extractLsb'_eq_extractLsb' (by rfl)
  rw [decodeMdir, encode, BitVec.append_assoc, BitVec.cast_eq, entry, toNat_zero_append, BitVec.extractLsb'_toNat,
    Nat.shiftRight_zero]

theorem setwinData_extract (data : BitVec 64) :
    setwinData (data.extractLsb' 0 16) (data.extractLsb' 16 16) (data.extractLsb' 32 16) (data.extractLsb' 48 16) =
      data := by
  rw [setwinData, BitVec.extractLsb'_append_extractLsb'_eq_extractLsb' (by rfl),
    BitVec.extractLsb'_append_extractLsb'_eq_extractLsb' (by rfl),
    BitVec.extractLsb'_append_extractLsb'_eq_extractLsb' (by rfl), BitVec.extractLsb'_eq_self]

theorem pixelData_extract {data : BitVec 64} (h : data.extractLsb' 24 40 = 0) :
    pixelData (data.extractLsb' 16 8) (data.extractLsb' 8 8) (data.extractLsb' 0 8) = data := by
  rw [pixelData, ← h, BitVec.extractLsb'_append_extractLsb'_eq_extractLsb' (by rfl),
    BitVec.extractLsb'_append_extractLsb'_eq_extractLsb' (by rfl),
    BitVec.extractLsb'_append_extractLsb'_eq_extractLsb' (by rfl), BitVec.extractLsb'_eq_self]

/-- What the display port's codes decode to: one of the three transactions with this payload, or the reserved one. -/
theorem decodeDisp_ok {cmd : BitVec 2} {data : BitVec 64} {i : Instr} (h : decodeDisp cmd data = .ok i) :
    i = .dispReserved ∨ encode i = some (.disp, dispWord cmd data) := by
  unfold decodeDisp at h
  split at h
  next hcmd => cases h; right; rw [hcmd, encode, setwinData_extract]
  next =>
    split at h
    next hcmd =>
      split at h
      next hdata => cases h; right; rw [hcmd, hdata, encode]
      next => cases h
    next =>
      split at h
      next hcmd =>
        split at h
        next hdata => cases h; right; rw [hcmd, encode, pixelData_extract hdata]
        next => cases h
      next => cases h; exact .inl rfl

theorem decodeSnd_ok {v : BitVec 2} {f : BitVec 8} {i : Instr} (h : decodeSnd v f = .ok i) :
    v ≠ 3 ∧ i = .sndSet v f := by
  unfold decodeSnd at h
  split at h
  next => cases h
  next hv => cases h; exact ⟨hv, rfl⟩

/-- Settles O2: each format's fields put its word together again, less the bits R95 lists as ignored. -/
theorem encodeOfDecode : Obligations.EncodeOfDecode := by
  unfold Obligations.EncodeOfDecode
  intro c w i hdec hres
  have hw := lt_of_decode_ok hdec
  cases c with
  | run =>
    rw [decode_run hw] at hdec
    cases hdec
    rw [encode_decodeRun, BitVec.toNat_ofNat, Nat.mod_eq_of_lt (b := 2 ^ 16) hw]
  | pal =>
    rw [decode_pal hw] at hdec
    cases hdec
    rw [encode_decodePal, BitVec.toNat_ofNat, Nat.mod_eq_of_lt (b := 2 ^ 32) hw]
  | fdir =>
    rw [decode_fdir hw] at hdec
    cases hdec
    rw [encode_decodeFdir, BitVec.toNat_ofNat, Nat.mod_eq_of_lt (b := 2 ^ 64) hw]
  | mdir =>
    rw [decode_mdir hw] at hdec
    cases hdec
    rw [encode_decodeMdir, BitVec.toNat_ofNat, Nat.mod_eq_of_lt (b := 2 ^ 64) hw]
  | note =>
    rw [decode_note hw] at hdec
    cases hdec
    rw [encode_decodeNote, BitVec.toNat_ofNat, Nat.mod_eq_of_lt (b := 2 ^ 32) hw]
  | seq =>
    rw [decode_seq hw] at hdec
    cases hdec
    rw [encode, BitVec.toNat_ofNat, Nat.mod_eq_of_lt (b := 2 ^ 8) hw]
  | dur =>
    rw [decode_dur hw] at hdec
    cases hdec
    rw [encode, BitVec.toNat_ofNat, Nat.mod_eq_of_lt (b := 2 ^ 16) hw]
  | disp =>
    rw [decode_disp hw] at hdec
    obtain hi | hi := decodeDisp_ok hdec
    · exact absurd hi hres
    · rw [hi, dispWord_split hw]
  | snd =>
    rw [decode_snd hw] at hdec
    obtain ⟨-, rfl⟩ := decodeSnd_ok hdec
    rw [encode, toNat_voice_append, BitVec.toNat_ofNat (x := w)]
    have hw' : w < 2 ^ 10 := hw
    have hword : BitVec.toNat (BitVec.ofNat 2 (w / 2 ^ 8)) * 2 ^ 8 + w % 2 ^ 8 = w := by
      rw [BitVec.toNat_ofNat]
      omega
    rw [hword]
  | rearm =>
    rw [decode_rearm hw] at hdec
    split at hdec
    next hone => cases hdec; rw [hone, encode]
    next => cases hdec

/-- Settles O4: the words of V-ENC and V-PRT evaluate to their rows. -/
theorem specWordsDecode : Obligations.SpecWordsDecode := by
  unfold Obligations.SpecWordsDecode
  exact ⟨rfl, rfl, rfl, rfl, rfl, rfl, rfl, rfl, rfl⟩

end Sys2Proof
end

section
/-! What a step does first (R29, R230), the ROM's and the ports' waits (R206), and the rows and sub-steps whose next
state is one record: each statement follows from the equation of the one operation it runs. -/

namespace Sys2Proof.Machine

/-! ### The step and reset -/

/-- Settles O5. -/
theorem stepRunsDecodedWord : Obligations.StepRunsDecodedWord := by
  unfold Obligations.StepRunsDecodedWord
  intro s nbits w i rest hrst htodo hdec
  exact (step_runs hrst htodo).trans (runTask_word hdec _)

theorem nextOperation_of_ne_init {p : Phase} (h : p ≠ .init) : nextOperation p = .iterate := by
  cases p with
  | init => exact absurd rfl h
  | poll => rfl
  | req => rfl
  | video => rfl
  | audio => rfl

/-- Settles O6. -/
theorem stepRunsAgenda : Obligations.StepRunsAgenda := by
  unfold Obligations.StepRunsAgenda
  intro s hrst
  refine ⟨fun i rest htodo => step_runs hrst htodo, fun htodo hphase => ?_, fun htodo hphase => ?_⟩
  · rw [step_begins hrst htodo, hphase, nextOperation]
  · rw [step_begins hrst htodo, nextOperation_of_ne_init hphase]

/-- Settles O7: the placed word is first on the agenda, and its pins are the next ones. -/
theorem fetchWordRunsNext : Obligations.FetchWordRunsNext := by
  unfold Obligations.FetchWordRunsNext
  intro s nbits w i hdec
  exact (step_runs (s := s.withFetchWord nbits w) rfl rfl).trans (runTask_word hdec _)

/-- Settles O9. -/
theorem resetAbandonsOperation : Obligations.ResetAbandonsOperation := by
  unfold Obligations.ResetAbandonsOperation
  intro s hrst
  obtain ⟨hphase, hframe, hmuted, hseq, hnote, hstatus, htodo, htrace, hrom, hcfg⟩ := assertReset_fields s.begin
  exact ⟨_, step_resets hrst, hphase, hframe, hmuted, hseq, hnote, hstatus, rfl, rfl, rfl, rfl, htodo, htrace, hrom,
    hcfg⟩

/-! ### An operation that reads the ROM and is not answered -/

section
variable {s : State} (hack : s.pins.romAck = false)
include hack

theorem execInit_noAck (hlegal : s.cfg.legal = true) : execInit s = .next (s.romWait .init) := by
  rw [execInit, if_pos hlegal, if_neg (by simp [hack])]

theorem execDecodeRow_noAck (hrem : s.rem ≠ 0) (hws : s.cfg.ws ≠ 0) :
    execDecodeRow s = .next (s.romWait .decodeRow) := by
  rw [execDecodeRow, if_neg (not_or.2 ⟨hrem, hws⟩), withRom_noAck hack]

theorem execDurLookup_noAck {c : BitVec 8} (hc : c.toNat < s.cfg.nd) :
    execDurLookup c s = .next (s.romWait (.durLookup c)) := by
  rw [execDurLookup, if_neg (Nat.not_le.2 hc), withRom_noAck hack]

theorem execSeq_noAck {m : BitVec 8} (hm : m.toNat < s.cfg.m) : execSeq m s = .next (s.romWait (.seq m)) := by
  rw [execSeq, if_neg (Nat.not_le.2 hm), withRom_noAck hack]

end

/-! ### What legality of the parameters says (R6, R7) -/

/-- Legality, item by item. -/
theorem legal_items {c : Params} (h : c.legal = true) :
    c.inRange = true ∧ c.scaleLegal = true ∧ c.waitsLegal = true ∧ c.countsLegal = true ∧ c.tablesLegal = true := by
  simp only [Params.legal, Bool.and_eq_true] at h
  obtain ⟨⟨⟨⟨hrange, hscale⟩, hwaits⟩, hcounts⟩, htables⟩ := h
  exact ⟨hrange, hscale, hwaits, hcounts, htables⟩

/-- The geometry of a legal block: `S` divides a width and a height of at most 65536 (R6, R7). -/
theorem legal_geometry {c : Params} (h : c.legal = true) :
    1 ≤ c.s ∧ 1 ≤ c.w ∧ c.w ≤ 65536 ∧ 1 ≤ c.h ∧ c.h ≤ 65536 ∧ c.ws * c.s = c.w ∧ c.rs * c.s = c.h := by
  obtain ⟨hrange, hscale, -, -, -⟩ := legal_items h
  simp only [Params.inRange, Params.scaleLegal, Bool.and_eq_true, decide_eq_true_eq, beq_iff_eq] at hrange hscale
  obtain ⟨⟨⟨⟨⟨⟨⟨hw, hw'⟩, hh⟩, hh'⟩, -⟩, -⟩, -⟩, -⟩ := hrange
  obtain ⟨⟨hs, hdivw⟩, hdivh⟩ := hscale
  exact ⟨hs, hw, hw', hh, hh', Nat.div_mul_cancel (Nat.dvd_of_mod_eq_zero hdivw),
    Nat.div_mul_cancel (Nat.dvd_of_mod_eq_zero hdivh)⟩

/-- The counts of a legal block lie in 1..256 (R7). -/
theorem legal_counts {c : Params} (h : c.legal = true) :
    1 ≤ c.k ∧ c.k ≤ 256 ∧ 1 ≤ c.m ∧ c.m ≤ 256 ∧ 1 ≤ c.nf ∧ c.nf ≤ 256 ∧ 1 ≤ c.nd ∧ c.nd ≤ 256 := by
  obtain ⟨-, -, -, hcounts, -⟩ := legal_items h
  simp only [Params.countsLegal, Bool.and_eq_true, decide_eq_true_eq] at hcounts
  obtain ⟨⟨⟨⟨⟨⟨⟨hk, hk'⟩, hm⟩, hm'⟩, hnf⟩, hnf'⟩, hnd⟩, hnd'⟩ := hcounts
  exact ⟨hk, hk', hm, hm', hnf, hnf', hnd, hnd'⟩

/-- The tables of a legal block lie below `ROM_SIZE`, and that is at most `2^32` (R6, R7). -/
theorem legal_tables {c : Params} (h : c.legal = true) :
    c.palBase + 4 * 16 ≤ c.romSize ∧ c.fdirBase + 8 * c.nf ≤ c.romSize ∧ c.durBase + 2 * c.nd ≤ c.romSize ∧
      c.mdirBase + 8 * c.m ≤ c.romSize ∧ c.seqBase + c.k ≤ c.romSize ∧ c.romSize ≤ 2 ^ 32 := by
  obtain ⟨hrange, -, -, -, htables⟩ := legal_items h
  simp only [Params.inRange, Params.tablesLegal, Bool.and_eq_true, decide_eq_true_eq] at hrange htables
  obtain ⟨⟨⟨⟨hpal, hfdir⟩, hdur⟩, hmdir⟩, hseq⟩ := htables
  exact ⟨hpal, hfdir, hdur, hmdir, hseq, hrange.2⟩

theorem legal_ws_pos {c : Params} (h : c.legal = true) : 0 < c.ws := by
  obtain ⟨-, hw, -, -, -, hws, -⟩ := legal_geometry h
  exact Nat.pos_of_mul_pos_right (Nat.lt_of_lt_of_eq hw hws.symm)

theorem legal_rs_pos {c : Params} (h : c.legal = true) : 0 < c.rs := by
  obtain ⟨-, -, -, hh, -, -, hrs⟩ := legal_geometry h
  exact Nat.pos_of_mul_pos_right (Nat.lt_of_lt_of_eq hh hrs.symm)

/-- Settles O12: each of these rows is a wait for the ROM; INIT is past its check of the parameters. -/
theorem romReadWaitsForAck : Obligations.RomReadWaitsForAck := by
  unfold Obligations.RomReadWaitsForAck
  rintro s i hlegal hack
    (rfl | ⟨f, rfl⟩ | ⟨rfl, hrem⟩ | rfl | ⟨p, rfl⟩ | ⟨p, j, rfl⟩ | ⟨p, j, rfl⟩ | ⟨d, rfl, hd⟩ | ⟨m, rfl, hm⟩)
  case inl => exact execInit_noAck hack hlegal
  case inr.inr.inl => exact execDecodeRow_noAck hack hrem (Nat.ne_of_gt (legal_ws_pos hlegal))
  case inr.inr.inr.inr.inr.inr.inr.inl => exact execDurLookup_noAck hack hd
  case inr.inr.inr.inr.inr.inr.inr.inr => exact execSeq_noAck hack hm
  all_goals exact withRom_noAck hack _ _

/-! ### Port transactions -/

/-- The payload of a pixel is its colour, widened (R92). -/
theorem pixelData_eq_setWidth (r g b : BitVec 8) : pixelData r g b = (r ++ g ++ b).setWidth 64 := by
  have append_colour : pixelData r g b = (0 : BitVec 40) ++ (r ++ g ++ b) := by
    rw [pixelData, BitVec.append_assoc (x₁ := (0 : BitVec 40)), BitVec.cast_eq,
      BitVec.append_assoc (x₁ := (0 : BitVec 40)), BitVec.cast_eq]
  rw [append_colour, BitVec.setWidth_eq_append (by decide), BitVec.cast_eq]
  rfl

/-- Settles O13. -/
theorem displayTransactionAccepted : Obligations.DisplayTransactionAccepted := by
  unfold Obligations.DisplayTransactionAccepted
  intro s hready
  refine ⟨fun x0 y0 x1 y1 => ?setwin, ?begin, fun r g b => ?pixel⟩
  case setwin => exact congrArg Host.Outcome.next (offerDisp_ready hready _ _ _)
  case begin => exact congrArg Host.Outcome.next (offerDisp_ready hready _ _ _)
  case pixel =>
    rw [← pixelData_eq_setWidth]
    exact congrArg Host.Outcome.next (offerDisp_ready hready _ _ _)

/-- Settles O14. -/
theorem displayTransactionWaits : Obligations.DisplayTransactionWaits := by
  unfold Obligations.DisplayTransactionWaits
  intro s hbusy
  refine ⟨fun x0 y0 x1 y1 => ?setwin, ?begin, fun r g b => ?pixel⟩
  case setwin => exact congrArg Host.Outcome.next (offerDisp_busy hbusy _ _ _)
  case begin => exact congrArg Host.Outcome.next (offerDisp_busy hbusy _ _ _)
  case pixel =>
    rw [← pixelData_eq_setWidth]
    exact congrArg Host.Outcome.next (offerDisp_busy hbusy _ _ _)

/-- A write to a voice the block has is an offer at the sound port (R93). -/
theorem execSndSet_offers {v : BitVec 2} (h : v ≠ 3) (f : BitVec 8) (s : State) :
    exec (.sndSet v f) s = .next (s.offerSnd (.sndSet v f) v f) := if_neg h

theorem voice_ne_three {v : BitVec 2} (h : v.toNat < 3) : v ≠ 3 := by
  rintro rfl
  exact absurd h (by decide)

/-- Settles O15. -/
theorem soundTransaction : Obligations.SoundTransaction := by
  unfold Obligations.SoundTransaction
  intro s v f hv
  rw [execSndSet_offers (voice_ne_three hv)]
  exact ⟨fun hready => congrArg Host.Outcome.next (offerSnd_ready hready _ _ _),
    fun hbusy => congrArg Host.Outcome.next (offerSnd_busy hbusy _ _ _)⟩

/-- Settles O16. -/
theorem reservedCodesStop : Obligations.ReservedCodesStop := by
  unfold Obligations.ReservedCodesStop
  exact fun s => ⟨rfl, fun f => rfl⟩

/-- Settles O20. -/
theorem rearmStrobes : Obligations.RearmStrobes := by
  unfold Obligations.RearmStrobes
  exact fun s => rfl

/-! ### Video sub-steps -/

/-- DECODE_ROW with no run word left flags FRAME_SHORT at once (R115). -/
theorem decodeRow_exhausted {s : State} (hrem : s.rem = 0) (hws : 0 < s.cfg.ws) :
    s.decodeRow = State.flag { s with x := 0 } .frameShort := by
  unfold State.decodeRow State.rowLoop
  rw [if_pos hws, if_pos hrem]

/-- Settles O24. -/
theorem exhaustedRowKeepsLine : Obligations.ExhaustedRowKeepsLine := by
  unfold Obligations.ExhaustedRowKeepsLine
  intro s hrem hws
  show execDecodeRow s = _
  rw [execDecodeRow, if_pos (.inl hrem), decodeRow_exhausted hrem hws]
  rfl

/-- The end of DECODE_FRAME flags left-over words (R116). -/
theorem frameEnd_eq (s : State) :
    s.frameEnd = { s with status := if s.rem = 0 then s.status else s.status ||| 0x04#8 } := by
  rw [State.frameEnd, flagIf_effect]
  by_cases hrem : s.rem = 0
  · rw [if_neg (by simp [hrem]), if_pos hrem]
  · rw [if_pos (decide_eq_true hrem), if_neg hrem]
    rfl

/-- Settles O26. -/
theorem leftoverWordsFlagged : Obligations.LeftoverWordsFlagged := by
  unfold Obligations.LeftoverWordsFlagged
  intro s rest hrst htodo
  exact (step_runs hrst htodo).trans (congrArg Host.Outcome.next (frameEnd_eq _))

/-! ### The scheduler -/

/-- Settles O40. -/
theorem illegalParametersRefused : Obligations.IllegalParametersRefused := by
  unfold Obligations.IllegalParametersRefused
  exact fun s h => if_neg (by simp [h])

/-- Settles O42. -/
theorem iterationStarts : Obligations.IterationStarts := by
  unfold Obligations.IterationStarts
  refine fun s => ⟨rfl, congrArg Host.Outcome.next ?_⟩
  simp only [State.pollInput, State.sampleInputs, State.rearmStrobe, List.append_assoc, List.cons_append,
    List.nil_append]

theorem request_mute {s : State} (h : s.mreq = true) : s.request = s.push [.op .mute] := if_pos h

theorem request_unmute {s : State} (hm : s.mreq = false) (hu : s.ureq = true) :
    s.request = s.push [.op .unmute] := by
  rw [State.request, if_neg (by simp [hm]), if_pos hu]

theorem request_none {s : State} (hm : s.mreq = false) (hu : s.ureq = false) :
    s.request = { s with phase := .video } := by
  rw [State.request, if_neg (by simp [hm]), if_neg (by simp [hu])]

/-- Settles O44. -/
theorem muteBeatsUnmute : Obligations.MuteBeatsUnmute := by
  unfold Obligations.MuteBeatsUnmute
  intro s rest hrst htodo
  rw [step_runs hrst htodo]
  exact ⟨fun hm => congrArg Host.Outcome.next (request_mute hm),
    fun hm hu => congrArg Host.Outcome.next (request_unmute hm hu),
    fun hm hu => congrArg Host.Outcome.next (request_none hm hu)⟩

theorem execMute_muted {s : State} (h : s.muted = true) : exec .mute s = .next { s with phase := .video } := by
  show execMute s = _
  rw [execMute, if_pos h, mute_muted h]

theorem execMute_playing {s : State} (h : s.muted = false) (hclock : s.clockKept = true) :
    exec .mute s =
      .next { s.sampleClock.push (voiceTasks 0 0 0 ++ [.clearCursor, .muteEnd]) with muted := true } := by
  show execMute s = _
  rw [execMute, if_neg (by simp [h]), withClock_kept hclock, mute_playing h]

/-- Settles O46. -/
theorem unmuteRestartsSong : Obligations.UnmuteRestartsSong := by
  unfold Obligations.UnmuteRestartsSong
  intro s
  refine ⟨fun hm => ?playing, fun hm hclock => ?muted⟩
  case playing =>
    show execUnmute s = _
    rw [execUnmute, if_neg (by simp [hm]), unmute_playing hm]
  case muted =>
    show execUnmute s = _
    rw [execUnmute, if_pos hm, withClock_kept hclock, unmute_muted hm]
    rfl

/-- Settles O47. -/
theorem videoTickAdvancesFrame : Obligations.VideoTickAdvancesFrame := by
  unfold Obligations.VideoTickAdvancesFrame
  intro s hclock
  show (_ → execVideoTick s = _) ∧ (_ → execVideoTick s = _)
  rw [execVideoTick, withClock_kept hclock]
  refine ⟨fun h => congrArg Host.Outcome.next ?_, fun h => congrArg Host.Outcome.next ?_⟩
  · rw [videoTick_ahead h, State.passed, State.sampleClock_cfg,
      show passedTest s.cfg s.sampleClock.now s.videoDl = _ from h]
    rfl
  · rw [videoTick_passed h, State.passed, State.sampleClock_cfg,
      show passedTest s.cfg s.sampleClock.now s.videoDl = _ from h]
    rfl

/-- Settles O48. -/
theorem audioTickRunsUpdate : Obligations.AudioTickRunsUpdate := by
  unfold Obligations.AudioTickRunsUpdate
  intro s hclock
  show (_ → execAudioTick s = _) ∧ (_ → execAudioTick s = _)
  rw [execAudioTick, withClock_kept hclock]
  refine ⟨fun h => congrArg Host.Outcome.next ?_, fun h => congrArg Host.Outcome.next ?_⟩
  · rw [audioTick_ahead h, State.passed, State.sampleClock_cfg,
      show passedTest s.cfg s.sampleClock.now s.audioDl = _ from h]
    rfl
  · rw [audioTick_passed h, State.passed, State.sampleClock_cfg,
      show passedTest s.cfg s.sampleClock.now s.audioDl = _ from h]
    rfl

/-- Settles O49. -/
theorem deadlinesAccumulate : Obligations.DeadlinesAccumulate := by
  unfold Obligations.DeadlinesAccumulate
  exact fun s rest hrst => ⟨fun htodo => step_runs hrst htodo, fun htodo => step_runs hrst htodo⟩

end Sys2Proof.Machine
end

section
/-! Which flags each operation can set (R202): `STATUS` grows, and only by the flags the operation's rule names. -/

namespace Sys2Proof.Machine

/-! ### `STATUS` growing by allowed flags only -/

/-- From `a` to `b` no status bit falls, bit 7 stays, and only flags that `may` allows are set. -/
def FlagsOnly (may : Flag → Bool) (a b : BitVec 8) : Prop :=
  StatusGrows a b ∧ ∀ f, may f = false → b.getLsbD (flagBit f) = a.getLsbD (flagBit f)

theorem FlagsOnly.refl {may : Flag → Bool} {a : BitVec 8} : FlagsOnly may a a := ⟨.rfl, fun _ _ => rfl⟩

theorem FlagsOnly.trans {may : Flag → Bool} {a b c : BitVec 8} (h : FlagsOnly may a b) (k : FlagsOnly may b c) :
    FlagsOnly may a c := ⟨h.1.trans k.1, fun f hf => (k.2 f hf).trans (h.2 f hf)⟩

/-- The mask of one flag has no other flag's bit. -/
theorem flagMask_getLsbD_of_ne {f g : Flag} (h : g ≠ f) : (flagMask f).getLsbD (flagBit g) = false := by
  cases f <;> cases g <;> first | exact absurd rfl h | rfl

theorem FlagsOnly.flag {may : Flag → Bool} {f : Flag} (hf : may f = true) (a : BitVec 8) :
    FlagsOnly may a (a ||| flagMask f) := by
  refine ⟨statusGrows_flag a f, fun g hg => ?_⟩
  have hne : g ≠ f := by
    rintro rfl
    rw [hf] at hg
    cases hg
  rw [BitVec.getLsbD_or, flagMask_getLsbD_of_ne hne, Bool.or_false]

theorem FlagsOnly.flagIf {may : Flag → Bool} {f : Flag} (hf : may f = true) (s : State) (b : Bool) :
    FlagsOnly may s.status (s.flagIf b f).status := by
  cases b with
  | false => exact .refl
  | true => exact .flag hf s.status

/-! ### ROM reads and the audio sequencer -/

section
variable {may : Flag → Bool} (hrange : may .romRange = true)
include hrange

theorem romByte_flags (s : State) (a : Nat) : FlagsOnly may s.status (s.romByte a).2.status := by
  unfold State.romByte
  split
  · exact .refl
  · exact .flag hrange s.status

theorem memRead_flags (s : State) (a n : Nat) : FlagsOnly may s.status (s.memRead a n).2.status := by
  induction n generalizing s a with
  | zero => exact .refl
  | succ n ih => exact (romByte_flags hrange s a).trans (ih _ _)

theorem readMdir_flags (s : State) (m : BitVec 8) : FlagsOnly may s.status (s.readMdir m).status := by
  simp only [State.readMdir, State.mdirWord_status]
  exact (memRead_flags hrange s _ 4).trans (memRead_flags hrange _ _ 1)

theorem durLookup_flags (hdur : may .durBad = true) (s : State) (c : BitVec 8) :
    FlagsOnly may s.status (s.durLookup c).status := by
  unfold State.durLookup
  split
  · exact .flag hdur s.status
  · simp only [State.readDur, State.durWord_status]
    exact memRead_flags hrange s _ 2

theorem loadPalette_flags (n : Nat) (s : State) : FlagsOnly may s.status (State.loadPalette n s).status := by
  induction n generalizing s with
  | zero => exact .refl
  | succ n ih =>
    rw [State.loadPalette]
    have hread := memRead_flags hrange s (palAddr s.cfg s.palIdx.toNat) 4
    generalize s.memRead (palAddr s.cfg s.palIdx.toNat) 4 = e at hread
    exact hread.trans (ih (e.2.palWord _ _ _))

theorem initialise_flags (s : State) : FlagsOnly may s.status s.initialise.status := by
  rw [State.initialise]
  have hload := loadPalette_flags hrange 16 { s with palIdx := 0 }
  generalize State.loadPalette 16 { s with palIdx := 0 } = t at hload
  exact hload

theorem decodeFrame_flags (s : State) (f : BitVec 8) : FlagsOnly may s.status (s.decodeFrame f).status := by
  simp only [State.decodeFrame, State.push_status, State.fdirWord_status]
  exact (memRead_flags hrange s _ 4).trans (memRead_flags hrange _ _ 4)

section
variable (hseq : may .seqBad = true)
include hseq

theorem seqWord_flags (s : State) (m : BitVec 8) : FlagsOnly may s.status (s.seqWord m).status := by
  unfold State.seqWord
  split
  · exact .flag hseq s.status
  · exact readMdir_flags hrange s m

theorem meas_flags (s : State) (p : Nat) : FlagsOnly may s.status (s.meas p).status := by
  rw [State.meas]
  exact (memRead_flags hrange s _ 1).trans (seqWord_flags hrange hseq _ _)

theorem scan_flags (n p i : Nat) (s : State) : FlagsOnly may s.status (State.scan n p i s).status := by
  induction n generalizing p i s with
  | zero => exact .refl
  | succ n ih =>
    unfold State.scan
    split
    · exact meas_flags hrange hseq s p
    · exact (meas_flags hrange hseq s p).trans (ih _ _ _)

theorem normalise_flags (s : State) (pos idx : BitVec 8) : FlagsOnly may s.status (s.normalise pos idx).status :=
  scan_flags hrange hseq _ _ _ s

theorem nextScan_flags (n q : Nat) (s : State) : FlagsOnly may s.status (State.nextScan n q s).status := by
  induction n generalizing q s with
  | zero => exact .refl
  | succ n ih =>
    unfold State.nextScan
    split
    · exact meas_flags hrange hseq s q
    · exact (meas_flags hrange hseq s q).trans (ih _ _)

theorem nextNote_flags (s : State) (p i : BitVec 8) : FlagsOnly may s.status (s.nextNote p i).status := by
  unfold State.nextNote
  split
  · exact meas_flags hrange hseq s _
  · exact (meas_flags hrange hseq s _).trans (nextScan_flags hrange hseq _ _ _)

theorem playNote_flags (s : State) (c : Cursor) : FlagsOnly may s.status (s.playNote c).status := by
  simp only [State.playNote, State.push_status]
  exact (meas_flags hrange hseq s _).trans (memRead_flags hrange _ _ 4)

theorem advance_flags (hempty : may .songEmpty = true) (s : State) :
    FlagsOnly may s.status s.advance.status := by
  unfold State.advance
  split
  · exact (normalise_flags hrange hseq s _ _).trans (.flag hempty _)
  · exact (normalise_flags hrange hseq s _ _).trans (playNote_flags hrange hseq _ _)

end
end

/-! ### The frame decoder -/

section
variable {may : Flag → Bool} (hovf : may .rowOvf = true)
include hovf

theorem expandRun_flags (s : State) : FlagsOnly may s.status s.expandRun.status := .flagIf hovf s _

theorem runWord_flags (s : State) (p : BitVec 4) (l : BitVec 12) : FlagsOnly may s.status (s.runWord p l).status :=
  expandRun_flags hovf { s with curP := p, curL := l }

theorem runNext_flags (hrange : may .romRange = true) (s : State) : FlagsOnly may s.status s.runNext.status :=
  (memRead_flags hrange s _ 2).trans
    (runWord_flags hovf { (s.memRead s.rp.toNat 2).2 with rp := s.rp + 2, rem := s.rem - 1 } _ _)

theorem rowLoop_flags (hrange : may .romRange = true) (hshort : may .frameShort = true) (fuel : Nat) (s : State) :
    FlagsOnly may s.status (State.rowLoop fuel s).status := by
  induction fuel generalizing s with
  | zero => exact .refl
  | succ fuel ih =>
    unfold State.rowLoop
    split
    · split
      · exact .flag hshort s.status
      · exact (runNext_flags hovf hrange s).trans (ih _)
    · exact .refl

theorem decodeRow_flags (hrange : may .romRange = true) (hshort : may .frameShort = true) (s : State) :
    FlagsOnly may s.status s.decodeRow.status :=
  rowLoop_flags hovf hrange hshort _ { s with x := 0 }

end

end Sys2Proof.Machine
end

section
/-! What one sub-step can do, said once. `Effect s t s'` lists, row by row, the next states `s'` that the sub-step `t`
can answer at `s`; `runTask_effect` and `step_effect` say that there are no others. Every invariant is read off it. -/

namespace Sys2Proof.Machine

open Sys2Proof.Safety

/-- The rows that read the ROM, and so may wait for it (R206). -/
def readsRom : Instr → Bool
  | .seq _ | .init | .decodeFrame _ | .decodeRow | .advance | .meas _ | .normalise _ _ | .next _ _ | .durLookup _ => true
  | _ => false

/-- `STATUS` grows only by the flags the sub-step may set (R202). -/
abbrev FlagsBy (t : Task) (a b : BitVec 8) : Prop := FlagsOnly (fun f => mayFlag f t) a b

/-- What ADVANCE's first sub-step schedules where NORMALISE found `f` (R143, R148). -/
inductive Advances : Option Cursor → List Task → Prop
  | empty : Advances none (voiceTasks 0 0 0 ++ [.clearCursor, .returnFallback])
  | plays (c : Cursor) (rec : BitVec 32) : Advances (some c) (playTasks rec c)

/-- The next states of the sub-step `t`, a word at the sequencer standing for the row it decodes to. -/
inductive Effect (s : State) : Task → State → Prop
  /-- The ROM does not answer (R206). -/
  | romWaits (i : Instr) (hi : readsRom i = true) : Effect s (.op i) (s.romWait i)
  /-- A display transaction is accepted (R38). -/
  | dispSent (i : Instr) (cmd : BitVec 2) (data : BitVec 64) (hi : dispOf i = some (cmd, data))
      (hready : s.pins.dispReady = true) :
      Effect s (.op i)
        { s with dispValid := false, dispCmd := cmd, dispData := data, trace := s.trace ++ [.disp cmd data] }
  /-- A display transaction stays offered (R206). -/
  | dispWaits (i : Instr) (cmd : BitVec 2) (data : BitVec 64) (hi : dispOf i = some (cmd, data))
      (hbusy : s.pins.dispReady = false) :
      Effect s (.op i) { s with dispValid := true, dispCmd := cmd, dispData := data, todo := .op i :: s.todo }
  /-- A sound transaction is accepted (R39). -/
  | sndSent (v : BitVec 2) (f : BitVec 8) (hv : v ≠ 3) (hready : s.pins.sndReady = true) :
      Effect s (.op (.sndSet v f))
        { s with sndValid := false, sndVoice := v, sndFreq := f, trace := s.trace ++ [.snd v f] }
  /-- A sound transaction stays offered (R206). -/
  | sndWaits (v : BitVec 2) (f : BitVec 8) (hv : v ≠ 3) (hbusy : s.pins.sndReady = false) :
      Effect s (.op (.sndSet v f))
        { s with sndValid := true, sndVoice := v, sndFreq := f, todo := .op (.sndSet v f) :: s.todo }
  | inRearm : Effect s (.op .inRearm) { s with rearm := true, trace := s.trace ++ [.rearm] }
  | run (p : BitVec 4) (l : BitVec 12) {line : List Colour} {x : Nat} {st : BitVec 8}
      (hline : line.length = s.line.length) (hx : s.x ≤ s.cfg.ws → x ≤ s.cfg.ws)
      (hst : FlagsBy (.op (.run p l)) s.status st) :
      Effect s (.op (.run p l)) { s with curP := p, curL := l, line := line, x := x, status := st }
  | expandRun {line : List Colour} {x : Nat} {st : BitVec 8}
      (hline : line.length = s.line.length) (hx : s.x ≤ s.cfg.ws → x ≤ s.cfg.ws)
      (hst : FlagsBy (.op .expandRun) s.status st) :
      Effect s (.op .expandRun) { s with line := line, x := x, status := st }
  | decodeRow {line : List Colour} {x d : Nat} {st : BitVec 8} {p : BitVec 4} {l : BitVec 12} {rp rem : BitVec 32}
      (hline : line.length = s.line.length) (hx : x ≤ s.cfg.ws) (hst : FlagsBy (.op .decodeRow) s.status st) :
      Effect s (.op .decodeRow)
        { s with line := line, x := x, status := st, draws := d, curP := p, curL := l, rp := rp, rem := rem }
  | decodeFrame (f : BitVec 8) {d : Nat} {st : BitVec 8} {rp rem : BitVec 32}
      (hst : FlagsBy (.op (.decodeFrame f)) s.status st) :
      Effect s (.op (.decodeFrame f))
        { s with status := st, draws := d, rp := rp, rem := rem, todo := frameTasks s.cfg ++ s.todo }
  | renderLine (r : BitVec 16) :
      Effect s (.op (.renderLine r)) (s.push ((renderOps s.cfg s.line r.toNat).map .op))
  | pal (r g b : BitVec 8) : Effect s (.op (.pal r g b)) (s.palWord r g b)
  | fdir (a n : BitVec 32) : Effect s (.op (.fdir a n)) (s.fdirWord a n)
  | mdir (a : BitVec 32) (n : BitVec 8) : Effect s (.op (.mdir a n)) (s.mdirWord a n)
  | note (f0 f1 f2 dc : BitVec 8) : Effect s (.op (.note f0 f1 f2 dc)) (s.push (noteTasks f0 f1 f2 dc))
  | dur (t : BitVec 16) : Effect s (.op (.dur t)) (s.durWord t)
  | seq (e : BitVec 8) {m : Measure} {st : BitVec 8} {d : Nat} (hst : FlagsBy (.op (.seq e)) s.status st) :
      Effect s (.op (.seq e)) { s with retMeas := m, status := st, draws := d }
  | meas (p : BitVec 8) {m : Measure} {st : BitVec 8} {d : Nat} (hst : FlagsBy (.op (.meas p)) s.status st) :
      Effect s (.op (.meas p)) { s with retMeas := m, status := st, draws := d }
  | normalise (pos idx : BitVec 8) {f : Option Cursor} {m : Measure} {st : BitVec 8} {d : Nat}
      (hst : FlagsBy (.op (.normalise pos idx)) s.status st) :
      Effect s (.op (.normalise pos idx)) { s with retFound := f, retMeas := m, status := st, draws := d }
  | next (p i : BitVec 8) {m : Measure} {st : BitVec 8} {d : Nat} (hst : FlagsBy (.op (.next p i)) s.status st) :
      Effect s (.op (.next p i))
        { s with retNext := (s.nextNote p i).retNext, retMeas := m, status := st, draws := d }
  | durLookup (c : BitVec 8) {t : Nat} {st : BitVec 8} {d : Nat} (hst : FlagsBy (.op (.durLookup c)) s.status st) :
      Effect s (.op (.durLookup c)) { s with retDur := t, status := st, draws := d }
  | advance {m : Measure} {st : BitVec 8} {d : Nat} {ts : List Task}
      (hts : Advances (s.normalise s.seqPos s.noteIdx).retFound ts) (hst : FlagsBy (.op .advance) s.status st) :
      Effect s (.op .advance)
        { s with
          retFound := (s.normalise s.seqPos s.noteIdx).retFound, retMeas := m, status := st, draws := d,
          todo := ts ++ s.todo }
  | mutedFallback : Effect s (.op .mutedFallback) (s.push (voiceTasks 0 0 0 ++ [.returnFallback]))
  | songEmptyPause :
      Effect s (.op .songEmptyPause)
        ((s.flag .songEmpty).push (voiceTasks 0 0 0 ++ [.clearCursor, .returnFallback]))
  | init {pl : Vector Colour 16} {ix : BitVec 4} {st : BitVec 8} {d : Nat} (hst : FlagsBy (.op .init) s.status st) :
      Effect s (.op .init)
        { s.sampleClock with
          pal := pl, palIdx := ix, status := st, draws := d, phase := .poll, videoDl := s.sampleClock.now,
          audioDl := s.sampleClock.now }
  | iterate : Effect s (.op .iterate) { s.push iterationTasks with phase := .poll }
  | pollInput : Effect s (.op .pollInput) { s.sampleInputs.rearmStrobe with phase := .req }
  | muteIdle (hm : s.muted = true) : Effect s (.op .mute) { s with phase := .video }
  | mute (hm : s.muted = false) :
      Effect s (.op .mute)
        { s.sampleClock.push (voiceTasks 0 0 0 ++ [.clearCursor, .muteEnd]) with muted := true }
  | unmuteIdle (hm : s.muted = false) : Effect s (.op .unmute) { s with phase := .video }
  | unmute (hm : s.muted = true) :
      Effect s (.op .unmute)
        { s.sampleClock.setCursor ⟨0, 0⟩ with muted := false, audioDl := s.sampleClock.now, phase := .video }
  | videoAhead : Effect s (.op .videoTick) { s.sampleClock.passed s.sampleClock.now s.videoDl with phase := .audio }
  | videoDue :
      Effect s (.op .videoTick)
        { (s.sampleClock.passed s.sampleClock.now s.videoDl).push
            [.op (.decodeFrame (nextFrame s.cfg s.frameIdx)), .videoEnd] with
          frameIdx := nextFrame s.cfg s.frameIdx }
  | audioAhead : Effect s (.op .audioTick) { s.sampleClock.passed s.sampleClock.now s.audioDl with phase := .poll }
  | audioDue :
      Effect s (.op .audioTick)
        ((s.sampleClock.passed s.sampleClock.now s.audioDl).push [.op (audioUpdate s.muted), .audioEnd])
  | passed (now dl : Nat) : Effect s (.op (.passed now dl)) (s.passed now dl)
  | setRow (r : BitVec 16) : Effect s (.setRow r) { s with row := r }
  | frameEnd {st : BitVec 8} (hst : FlagsBy .frameEnd s.status st) : Effect s .frameEnd { s with status := st }
  | videoEnd : Effect s .videoEnd s.videoEnd
  | storeCursor : Effect s .storeCursor (s.setCursor s.retNext)
  | clearCursor : Effect s .clearCursor (s.setCursor ⟨0, 0⟩)
  | returnFallback : Effect s .returnFallback { s with retDur := s.cfg.fallbackMs }
  | audioEnd : Effect s .audioEnd s.audioEnd
  | muteEnd : Effect s .muteEnd s.muteEnd
  | requestMute : Effect s .request (s.push [.op .mute])
  | requestUnmute : Effect s .request (s.push [.op .unmute])
  | requestNone : Effect s .request { s with phase := .video }

/-! ### The rows -/

/-- A row that goes on when the ROM answers either waits or has its effect. -/
theorem Effect.of_withRom {s go s' : State} {i : Instr} (h : s.withRom i go = .next s') (hi : readsRom i = true)
    (hgo : Effect s (.op i) go) : Effect s (.op i) s' := by
  obtain ⟨-, rfl⟩ | ⟨-, rfl⟩ := withRom_next h
  · exact hgo
  · exact .romWaits i hi

theorem Effect.of_offerDisp (s : State) {i : Instr} {cmd : BitVec 2} {data : BitVec 64}
    (hi : dispOf i = some (cmd, data)) : Effect s (.op i) (s.offerDisp i cmd data) := by
  cases h : s.pins.dispReady with
  | true => rw [offerDisp_ready h]; exact .dispSent i cmd data hi h
  | false => rw [offerDisp_busy h]; exact .dispWaits i cmd data hi h

theorem Effect.of_execSndSet {s s' : State} {v : BitVec 2} {f : BitVec 8} (h : execSndSet v f s = .next s') :
    Effect s (.op (.sndSet v f)) s' := by
  unfold execSndSet at h
  split at h
  next => cases h
  next hv =>
    cases h
    cases h : s.pins.sndReady with
    | true => rw [offerSnd_ready h]; exact .sndSent v f hv h
    | false => rw [offerSnd_busy h]; exact .sndWaits v f hv h

theorem Effect.of_runWord (s : State) (p : BitVec 4) (l : BitVec 12) :
    Effect s (.op (.run p l)) (s.runWord p l) := by
  have hst := runWord_flags (may := fun f => mayFlag f (.op (.run p l))) rfl s p l
  obtain ⟨line, x, st, h, hline, -, hx, -⟩ := expandRun_effect { s with curP := p, curL := l }
  rw [State.runWord, h] at hst ⊢
  exact .run p l hline hx hst

theorem Effect.of_expandRun (s : State) : Effect s (.op .expandRun) s.expandRun := by
  have hst := expandRun_flags (may := fun f => mayFlag f (.op .expandRun)) rfl s
  obtain ⟨line, x, st, h, hline, -, hx, -⟩ := expandRun_effect s
  rw [h] at hst ⊢
  exact .expandRun hline hx hst

theorem Effect.of_decodeRow (s : State) : Effect s (.op .decodeRow) s.decodeRow := by
  have hst := decodeRow_flags (may := fun f => mayFlag f (.op .decodeRow)) rfl rfl rfl s
  obtain ⟨line, x, st, d, p, l, rp, rem, h, hline, hx, -⟩ := decodeRow_effect s
  rw [h] at hst ⊢
  exact .decodeRow hline hx hst

theorem Effect.of_execDecodeRow {s s' : State} (h : execDecodeRow s = .next s') : Effect s (.op .decodeRow) s' := by
  unfold execDecodeRow at h
  split at h
  next => cases h; exact .of_decodeRow s
  next => exact .of_withRom h rfl (.of_decodeRow s)

theorem Effect.of_decodeFrame (s : State) (f : BitVec 8) : Effect s (.op (.decodeFrame f)) (s.decodeFrame f) := by
  have hst := decodeFrame_flags (may := fun g => mayFlag g (.op (.decodeFrame f))) rfl s f
  obtain ⟨st, d, rp, rem, h, -⟩ := decodeFrame_effect s f
  rw [h] at hst ⊢
  exact .decodeFrame f hst

theorem Effect.of_seqWord (s : State) (e : BitVec 8) : Effect s (.op (.seq e)) (s.seqWord e) := by
  have hst := seqWord_flags (may := fun f => mayFlag f (.op (.seq e))) rfl rfl s e
  obtain ⟨m, st, d, h, -⟩ := seqWord_effect s e
  rw [h] at hst ⊢
  exact .seq e hst

theorem Effect.of_execSeq {s s' : State} {e : BitVec 8} (h : execSeq e s = .next s') :
    Effect s (.op (.seq e)) s' := by
  unfold execSeq at h
  split at h
  next => cases h; exact .of_seqWord s e
  next => exact .of_withRom h rfl (.of_seqWord s e)

theorem Effect.of_meas (s : State) (p : BitVec 8) : Effect s (.op (.meas p)) (s.meas p.toNat) := by
  have hst := meas_flags (may := fun f => mayFlag f (.op (.meas p))) rfl rfl s p.toNat
  obtain ⟨m, st, d, h, -⟩ := meas_effect p.toNat s
  rw [h] at hst ⊢
  exact .meas p hst

theorem Effect.of_normalise (s : State) (pos idx : BitVec 8) :
    Effect s (.op (.normalise pos idx)) (s.normalise pos idx) := by
  have hst := normalise_flags (may := fun f => mayFlag f (.op (.normalise pos idx))) rfl rfl s pos idx
  obtain ⟨f, m, st, d, h, -⟩ := normalise_effect s pos idx
  rw [h] at hst ⊢
  exact .normalise pos idx hst

theorem Effect.of_nextNote (s : State) (p i : BitVec 8) : Effect s (.op (.next p i)) (s.nextNote p i) := by
  have hst := nextNote_flags (may := fun f => mayFlag f (.op (.next p i))) rfl rfl s p i
  obtain ⟨c, m, st, d, h, -⟩ := nextNote_effect s p i
  have hc : c = (s.nextNote p i).retNext := by rw [h]
  rw [h] at hst
  rw [h, hc]
  exact .next p i hst

theorem Effect.of_durLookup (s : State) (c : BitVec 8) : Effect s (.op (.durLookup c)) (s.durLookup c) := by
  have hst := durLookup_flags (may := fun f => mayFlag f (.op (.durLookup c))) rfl rfl s c
  obtain ⟨t, st, d, h, -⟩ := durLookup_effect s c
  rw [h] at hst ⊢
  exact .durLookup c hst

theorem Effect.of_execDurLookup {s s' : State} {c : BitVec 8} (h : execDurLookup c s = .next s') :
    Effect s (.op (.durLookup c)) s' := by
  unfold execDurLookup at h
  split at h
  next => cases h; exact .of_durLookup s c
  next => exact .of_withRom h rfl (.of_durLookup s c)

theorem Effect.of_advance (s : State) : Effect s (.op .advance) s.advance := by
  have hst := advance_flags (may := fun f => mayFlag f (.op .advance)) rfl rfl rfl s
  obtain ⟨f, m, st, d, ts, h, -, hf, hts⟩ := advance_effect s
  have hadv : Advances f ts := by
    obtain ⟨rfl, rfl⟩ | ⟨c, rec, rfl, rfl⟩ := hts
    · exact .empty
    · exact .plays c rec
  rw [h] at hst ⊢
  rw [hf] at hadv ⊢
  exact .advance hadv hst

theorem Effect.of_execInit {s s' : State} (h : execInit s = .next s') : Effect s (.op .init) s' := by
  obtain ⟨-, ⟨-, rfl⟩ | ⟨-, -, rfl⟩⟩ := execInit_next h
  · exact .romWaits .init rfl
  · have hst := initialise_flags (may := fun f => mayFlag f (.op .init)) rfl s
    obtain ⟨pl, ix, st, d, hinit, -⟩ := initialise_effect s
    rw [hinit] at hst ⊢
    exact .init hst

theorem Effect.of_execMute {s s' : State} (h : execMute s = .next s') : Effect s (.op .mute) s' := by
  obtain ⟨-, rfl⟩ := execMute_next h
  cases hm : s.muted with
  | false => rw [mute_playing hm]; exact .mute hm
  | true => rw [mute_muted hm]; exact .muteIdle hm

theorem Effect.of_execUnmute {s s' : State} (h : execUnmute s = .next s') : Effect s (.op .unmute) s' := by
  obtain ⟨-, rfl⟩ := execUnmute_next h
  cases hm : s.muted with
  | false => rw [unmute_playing hm]; exact .unmuteIdle hm
  | true => rw [unmute_muted hm]; exact .unmute hm

theorem Effect.of_videoTick (s : State) : Effect s (.op .videoTick) s.videoTick := by
  cases h : passedTest s.cfg s.sampleClock.now s.videoDl with
  | false => rw [videoTick_ahead h]; exact .videoAhead
  | true => rw [videoTick_passed h]; exact .videoDue

theorem Effect.of_audioTick (s : State) : Effect s (.op .audioTick) s.audioTick := by
  cases h : passedTest s.cfg s.sampleClock.now s.audioDl with
  | false => rw [audioTick_ahead h]; exact .audioAhead
  | true => rw [audioTick_passed h]; exact .audioDue

theorem Effect.of_frameEnd (s : State) : Effect s .frameEnd s.frameEnd := by
  have hst : FlagsBy .frameEnd s.status s.frameEnd.status := .flagIf (f := .frameLong) rfl s _
  rw [frameEnd_eq] at hst ⊢
  exact .frameEnd hst

theorem Effect.of_request (s : State) : Effect s .request s.request := by
  cases hm : s.mreq with
  | true => rw [request_mute hm]; exact .requestMute
  | false =>
    cases hu : s.ureq with
    | true => rw [request_unmute hm hu]; exact .requestUnmute
    | false => rw [request_none hm hu]; exact .requestNone

/-- A row that answers a next state answers one of its effects. -/
theorem exec_effect {i : Instr} {s s' : State} (h : exec i s = .next s') : Effect s (.op i) s' := by
  cases i with
  | run p l => cases h; exact .of_runWord s p l
  | pal r g b => cases h; exact .pal r g b
  | fdir a n => cases h; exact .fdir a n
  | mdir a n => cases h; exact .mdir a n
  | note f0 f1 f2 dc => cases h; exact .note f0 f1 f2 dc
  | seq e => exact .of_execSeq h
  | dur t => cases h; exact .dur t
  | dispSetwin x0 y0 x1 y1 => cases h; exact .of_offerDisp s rfl
  | dispBegin => cases h; exact .of_offerDisp s rfl
  | dispPixel r g b => cases h; exact .of_offerDisp s rfl
  | dispReserved => cases h
  | sndSet v f => exact .of_execSndSet h
  | inRearm => cases h; exact .inRearm
  | init => exact .of_execInit h
  | iterate => cases h; exact .iterate
  | pollInput => cases h; exact .pollInput
  | mute => exact .of_execMute h
  | unmute => exact .of_execUnmute h
  | videoTick => obtain ⟨-, rfl⟩ := withClock_next h; exact .of_videoTick s
  | decodeFrame f => exact .of_withRom h rfl (.of_decodeFrame s f)
  | decodeRow => exact .of_execDecodeRow h
  | expandRun => cases h; exact .of_expandRun s
  | renderLine r => cases h; exact .renderLine r
  | audioTick => obtain ⟨-, rfl⟩ := withClock_next h; exact .of_audioTick s
  | advance => exact .of_withRom h rfl (.of_advance s)
  | meas p => exact .of_withRom h rfl (.of_meas s p)
  | normalise pos idx => exact .of_withRom h rfl (.of_normalise s pos idx)
  | next p j => exact .of_withRom h rfl (.of_nextNote s p j)
  | durLookup c => exact .of_execDurLookup h
  | mutedFallback => cases h; exact .mutedFallback
  | songEmptyPause => cases h; exact .songEmptyPause
  | passed t dl => cases h; exact .passed t dl

/-! ### The sub-steps and the step -/

/-- A sub-step, a word at the sequencer standing for the row it decodes to. -/
def decodedTask : Task → Task
  | .word nbits w => match decodeTableWord nbits w with
    | some i => .op i
    | none => .word nbits w
  | t => t

theorem ran_eq_decodedTask (s : State) : ran s = decodedTask (running s) := by
  unfold ran decodedTask
  cases running s <;> rfl

theorem decodedTask_word {nbits w : Nat} {i : Instr} (h : decodeTableWord nbits w = some i) :
    decodedTask (.word nbits w) = .op i := by
  rw [decodedTask, h]

/-- A sub-step that answers a next state answers one of its effects. -/
theorem runTask_effect {t : Task} {s s' : State} (h : runTask t s = .next s') : Effect s (decodedTask t) s' := by
  cases t with
  | op i => exact exec_effect h
  | word nbits w =>
    cases hdec : decodeTableWord nbits w with
    | some i =>
      rw [runTask_word hdec] at h
      rw [decodedTask_word hdec]
      exact exec_effect h
    | none =>
      have hstop : runTask (.word nbits w) s = .refused .undecodable := by rw [runTask, runWordTask, hdec]
      rw [hstop] at h
      cases h
  | setRow r => cases h; exact .setRow r
  | frameEnd => cases h; exact .of_frameEnd s
  | videoEnd => cases h; exact .videoEnd
  | storeCursor => cases h; exact .storeCursor
  | clearCursor => cases h; exact .clearCursor
  | returnFallback => cases h; exact .returnFallback
  | audioEnd => cases h; exact .audioEnd
  | muteEnd => cases h; exact .muteEnd
  | request => cases h; exact .of_request s

/-- The state at which a step runs its sub-step: the pins taken, the strobes ended, the sub-step off the agenda. -/
def State.poised (s : State) : State := { s.begin with todo := s.todo.tail }

/-- Without reset a step runs one sub-step at the poised state. -/
theorem step_eq_runTask {s : State} (hr : s.nextPins.rst = false) : step s = runTask (running s) s.poised := by
  cases ht : s.todo with
  | nil =>
    have hrunning : running s = .op (nextOperation s.phase) := by rw [running, ht]
    have hpoised : s.poised = s.begin := by
      rw [State.poised, ht, List.tail_nil, ← ht]
      rfl
    rw [step_begins hr ht, hrunning, hpoised]
    rfl
  | cons t rest =>
    have hrunning : running s = t := by rw [running, ht]
    have hpoised : s.poised = { s.begin with todo := rest } := by rw [State.poised, ht, List.tail_cons]
    rw [step_runs hr ht, hrunning, hpoised]

/-- A step is a reset, or an effect of the sub-step it runs. -/
theorem step_effect {s s' : State} (h : step s = .next s') :
    (s.nextPins.rst = true ∧ s' = s.begin.assertReset) ∨
      (s.nextPins.rst = false ∧ Effect s.poised (ran s) s') := by
  cases hr : s.nextPins.rst with
  | true =>
    rw [step_resets hr] at h
    cases h
    exact .inl ⟨rfl, rfl⟩
  | false =>
    rw [step_eq_runTask hr] at h
    rw [ran_eq_decodedTask]
    exact .inr ⟨rfl, runTask_effect h⟩

end Sys2Proof.Machine
end

section
/-! The invariants read off the effects of a sub-step: what stays constant, the sticky flags, the events, the offers
and the silence. -/

namespace Sys2Proof.Machine

open Sys2Proof.Safety

variable {s s' : State} {t : Task}

/-! ### What no step writes (R34, R51) -/

theorem Effect.cfg_rom (h : Effect s t s') : s'.cfg = s.cfg ∧ s'.rom = s.rom := by
  cases h <;> exact ⟨rfl, rfl⟩

/-- Settles O11. -/
theorem romAndParametersConstant : Obligations.RomAndParametersConstant := by
  unfold Obligations.RomAndParametersConstant
  intro s s' h
  obtain ⟨-, rfl⟩ | ⟨-, heff⟩ := step_effect h
  · exact ⟨rfl, rfl, fun _ => rfl⟩
  · obtain ⟨hcfg, hrom⟩ := heff.cfg_rom
    exact ⟨hcfg, hrom, fun a => by rw [hrom]; rfl⟩

/-! ### `STATUS` (R33, R202) -/

theorem Effect.status (h : Effect s t s') : FlagsBy t s.status s'.status := by
  cases h with
  | songEmptyPause => exact .flag rfl s.status
  | run _ _ _ _ hst | expandRun _ _ hst | decodeRow _ _ hst | decodeFrame _ hst | seq _ hst | meas _ hst
  | normalise _ _ hst | next _ _ hst | durLookup _ hst | advance _ hst | init hst | frameEnd hst => exact hst
  | _ => exact .refl

/-- Settles O56. -/
theorem statusSticky : Obligations.StatusSticky := by
  unfold Obligations.StatusSticky
  intro s s' hrst h
  obtain ⟨hreset, -⟩ | ⟨-, heff⟩ := step_effect h
  · rw [hrst] at hreset
    cases hreset
  · obtain ⟨⟨hkept, hbit7⟩, -⟩ := heff.status
    exact ⟨hkept, hbit7.trans⟩

/-! ### Who writes each register (R21 to R33, R180) -/

theorem Effect.frameIdx (h : Effect s t s') (hne : s'.frameIdx ≠ s.frameIdx) : t = .op .videoTick := by
  cases h with
  | videoDue => rfl
  | _ => exact absurd rfl hne

theorem Effect.videoDl (h : Effect s t s') (hne : s'.videoDl ≠ s.videoDl) : t = .op .init ∨ t = .videoEnd := by
  cases h with
  | init => exact .inl rfl
  | videoEnd => exact .inr rfl
  | _ => exact absurd rfl hne

theorem Effect.audioDl (h : Effect s t s') (hne : s'.audioDl ≠ s.audioDl) :
    t = .op .init ∨ t = .audioEnd ∨ t = .muteEnd ∨ t = .op .unmute := by
  cases h with
  | init => exact .inl rfl
  | audioEnd => exact .inr (.inl rfl)
  | muteEnd => exact .inr (.inr (.inl rfl))
  | unmute => exact .inr (.inr (.inr rfl))
  | _ => exact absurd rfl hne

theorem Effect.muted (h : Effect s t s') (hne : s'.muted ≠ s.muted) : t = .op .mute ∨ t = .op .unmute := by
  cases h with
  | mute => exact .inl rfl
  | unmute => exact .inr rfl
  | _ => exact absurd rfl hne

theorem Effect.cursor (h : Effect s t s') (hne : s'.seqPos ≠ s.seqPos ∨ s'.noteIdx ≠ s.noteIdx) :
    t = .storeCursor ∨ t = .clearCursor ∨ t = .op .unmute := by
  cases h with
  | storeCursor => exact .inl rfl
  | clearCursor => exact .inr (.inl rfl)
  | unmute => exact .inr (.inr rfl)
  | _ => exact absurd hne (not_or.2 ⟨fun h => h rfl, fun h => h rfl⟩)

theorem Effect.now (h : Effect s t s') (hne : s'.now ≠ s.now) : writesNow t = true := by
  cases h with
  | init | mute | unmute | videoAhead | videoDue | audioAhead | audioDue => rfl
  | _ => exact absurd rfl hne

theorem Effect.phase (h : Effect s t s') (hne : s'.phase ≠ s.phase) : writesPhase t = true := by
  cases h with
  | init | iterate | pollInput | muteIdle | mute | unmuteIdle | unmute | videoAhead | videoDue | audioAhead | audioDue
  | videoEnd | audioEnd | muteEnd | requestNone => rfl
  | _ => exact absurd rfl hne

theorem Effect.pal_writer (h : Effect s t s') (hne : s'.pal ≠ s.pal) :
    t = .op .init ∨ ∃ r g b, t = .op (.pal r g b) := by
  cases h with
  | init => exact .inl rfl
  | pal r g b => exact .inr ⟨r, g, b, rfl⟩
  | _ => exact absurd rfl hne

theorem Effect.line_x (h : Effect s t s') (hne : s'.line ≠ s.line ∨ s'.x ≠ s.x) : writesLine t = true := by
  cases h with
  | run | expandRun | decodeRow => rfl
  | _ => exact absurd hne (not_or.2 ⟨fun h => h rfl, fun h => h rfl⟩)

theorem Effect.row (h : Effect s t s') (hne : s'.row ≠ s.row) : ∃ r, t = .setRow r := by
  cases h with
  | setRow r => exact ⟨r, rfl⟩
  | _ => exact absurd rfl hne

theorem Effect.rp_rem (h : Effect s t s') (hne : s'.rp ≠ s.rp ∨ s'.rem ≠ s.rem) : writesRun t = true := by
  cases h with
  | fdir | decodeFrame | decodeRow => rfl
  | _ => exact absurd hne (not_or.2 ⟨fun h => h rfl, fun h => h rfl⟩)

theorem Effect.curP_curL (h : Effect s t s') (hne : s'.curP ≠ s.curP ∨ s'.curL ≠ s.curL) : writesCur t = true := by
  cases h with
  | run | decodeRow => rfl
  | _ => exact absurd hne (not_or.2 ⟨fun h => h rfl, fun h => h rfl⟩)

/-- A flag changes only at a sub-step that may set it (R202). -/
theorem Effect.flagged (h : Effect s t s') {f : Flag} (hne : s'.flagged f ≠ s.flagged f) : mayFlag f t = true := by
  by_contra hmay
  exact hne (h.status.2 f (by simpa using hmay))

/-- Settles O59: one lemma a register, each read off the effects. -/
theorem registerWriters : Obligations.RegisterWriters := by
  unfold Obligations.RegisterWriters
  intro s s' hrst h
  obtain ⟨hreset, -⟩ | ⟨-, heff⟩ := step_effect h
  · rw [hrst] at hreset
    cases hreset
  · exact ⟨heff.frameIdx, heff.videoDl, heff.audioDl, heff.muted, heff.cursor, heff.now, heff.phase, heff.pal_writer,
      heff.line_x, heff.row, heff.rp_rem, heff.curP_curL, fun f => heff.flagged, heff.status.1.2⟩

/-! ### The events of a sub-step (R14) -/

/-- From `s` to `s'` the sub-step `t` adds the events `evs`: only legal ones, a sounding one only where `t` is loud,
and the strobe exactly where `rearm` rises. -/
structure Emits (t : Task) (s s' : State) (evs : List Event) : Prop where
  trace : s'.trace = s.trace ++ evs
  legal : ∀ e ∈ evs, eventLegal e = true
  quiet : ∀ e ∈ evs, soundsVoice e = true → loud t = true
  strobe : s'.rearm = true ↔ s.rearm = true ∨ Event.rearm ∈ evs

theorem Emits.none (htrace : s'.trace = s.trace) (hrearm : s'.rearm = s.rearm) : Emits t s s' [] where
  trace := by rw [htrace, List.append_nil]
  legal := by simp
  quiet := by simp
  strobe := by simp [hrearm]

theorem Emits.one {e : Event} (htrace : s'.trace = s.trace ++ [e]) (hlegal : eventLegal e = true)
    (hquiet : soundsVoice e = true → loud t = true) (hrearm : s'.rearm = s.rearm) (hne : e ≠ .rearm) :
    Emits t s s' [e] where
  trace := htrace
  legal := by simpa using hlegal
  quiet := by simpa using hquiet
  strobe := by simp [hrearm, hne.symm]

/-- A transaction of the display port carries a legal code (R89 to R92). -/
theorem eventLegal_of_dispOf {i : Instr} {cmd : BitVec 2} {data : BitVec 64} (h : dispOf i = some (cmd, data)) :
    eventLegal (.disp cmd data) = true := by
  cases i with
  | dispSetwin x0 y0 x1 y1 => cases h; rfl
  | dispBegin => cases h; rfl
  | dispPixel r g b =>
    cases h
    simp [eventLegal, extractLsb'_pixelData_high r g b]
  | _ => cases h

theorem eventLegal_snd {v : BitVec 2} (h : v ≠ 3) (f : BitVec 8) : eventLegal (.snd v f) = true := by
  have hv : v.toNat ≠ 3 := fun h3 => h (BitVec.eq_of_toNat_eq h3)
  exact decide_eq_true (by omega)

theorem Effect.emits (h : Effect s t s') : ∃ evs, Emits t s s' evs := by
  cases h with
  | dispSent i cmd data hi =>
    exact ⟨_, .one (e := .disp cmd data) rfl (eventLegal_of_dispOf hi) (by simp [soundsVoice]) rfl (by simp)⟩
  | sndSent v f hv => exact ⟨_, .one (e := .snd v f) rfl (eventLegal_snd hv f) id rfl (by simp)⟩
  | inRearm => exact ⟨[.rearm], ⟨rfl, by simp [eventLegal], by simp [soundsVoice], by simp⟩⟩
  | pollInput =>
    exact ⟨[.input s.pins.muteN s.pins.unmuteN, .rearm],
      ⟨by simp, by simp [eventLegal], by simp [soundsVoice], by simp⟩⟩
  | init | mute | unmute | videoAhead | videoDue | audioAhead | audioDue =>
    exact ⟨_, .one (e := .clock (s.pins.msNow % s.cfg.clkMod)) rfl rfl (by simp [soundsVoice]) rfl (by simp)⟩
  | _ => exact ⟨[], .none rfl rfl⟩

/-- Settles O19: under reset there is no event, and else the events of the sub-step's effect. -/
theorem traceGrowsByLegalEvents : Obligations.TraceGrowsByLegalEvents := by
  unfold Obligations.TraceGrowsByLegalEvents
  intro s s' h
  obtain ⟨-, rfl⟩ | ⟨-, heff⟩ := step_effect h
  · exact ⟨[], (List.append_nil _).symm, by simp, by simp [State.assertReset, State.resetWith]⟩
  · obtain ⟨evs, hemits⟩ := heff.emits
    exact ⟨evs, hemits.trace, hemits.legal, hemits.strobe.trans (by simp [State.poised])⟩

/-! ### Words at the sequencer -/

/-- What decodes is a row with a bit encoding: no internal operation is selected by a word (R62). -/
theorem encode_of_decode_ok {c : Channel} {w : Nat} {i : Instr} (h : decode c w = .ok i) : encode i ≠ none := by
  by_cases hres : i = .dispReserved
  · rw [hres]
    exact Option.some_ne_none _
  · rw [encodeOfDecode c w i h hres]
    exact Option.some_ne_none _

theorem encode_of_decodeTableWord {nbits w : Nat} {i : Instr} (h : decodeTableWord nbits w = some i) :
    encode i ≠ none := by
  unfold decodeTableWord at h
  split at h
  next => cases h
  next c v _ =>
    split at h
    next j hdec => cases h; exact encode_of_decode_ok hdec
    next => cases h

/-- A word at the sequencer that runs stands for a row it decodes to, and any other sub-step for itself. -/
theorem decodedTask_cases (t : Task) :
    decodedTask t = t ∨ ∃ nbits w i, t = .word nbits w ∧ decodedTask t = .op i ∧ decodeTableWord nbits w = some i := by
  cases t with
  | word nbits w =>
    cases hdec : decodeTableWord nbits w with
    | none => left; rw [decodedTask, hdec]
    | some i => exact .inr ⟨nbits, w, i, rfl, decodedTask_word hdec, hdec⟩
  | _ => exact .inl rfl

/-! ### Offered transactions (R38, R39) -/

/-- The display payload a sub-step offers. -/
def taskDisp : Task → Option (BitVec 2 × BitVec 64)
  | .op i => dispOf i
  | _ => none

/-- The sound payload a sub-step offers. -/
def taskSnd : Task → Option (BitVec 2 × BitVec 8)
  | .op i => sndOf i
  | _ => none

theorem headOffersDisp_cases {p : BitVec 2 × BitVec 64} (h : headOffersDisp s = some p) :
    ∃ i rest, s.todo = .op i :: rest ∧ dispOf i = some p := by
  unfold headOffersDisp at h
  split at h
  next i rest htodo => exact ⟨i, rest, htodo, h⟩
  next => cases h

theorem headOffersSnd_cases {p : BitVec 2 × BitVec 8} (h : headOffersSnd s = some p) :
    ∃ i rest, s.todo = .op i :: rest ∧ sndOf i = some p := by
  unfold headOffersSnd at h
  split at h
  next i rest htodo => exact ⟨i, rest, htodo, h⟩
  next => cases h

theorem running_of_todo {rest : List Task} (h : s.todo = t :: rest) : running s = t := by
  rw [running, h]

theorem taskDisp_ran {p : BitVec 2 × BitVec 64} (h : headOffersDisp s = some p) : taskDisp (ran s) = some p := by
  obtain ⟨i, rest, htodo, hi⟩ := headOffersDisp_cases h
  rw [ran_eq_decodedTask, running_of_todo htodo]
  exact hi

theorem taskSnd_ran {p : BitVec 2 × BitVec 8} (h : headOffersSnd s = some p) : taskSnd (ran s) = some p := by
  obtain ⟨i, rest, htodo, hi⟩ := headOffersSnd_cases h
  rw [ran_eq_decodedTask, running_of_todo htodo]
  exact hi

/-- No row offers at both ports, and a row that reads the ROM offers at neither. -/
theorem sndOf_of_dispOf {i : Instr} {p : BitVec 2 × BitVec 64} (h : dispOf i = some p) : sndOf i = none := by
  cases i with
  | sndSet => cases h
  | _ => rfl

theorem dispOf_of_readsRom {i : Instr} (h : readsRom i = true) : dispOf i = none := by
  cases i with
  | dispSetwin | dispBegin | dispPixel => cases h
  | _ => rfl

theorem sndOf_of_readsRom {i : Instr} (h : readsRom i = true) : sndOf i = none := by
  cases i with
  | sndSet => cases h
  | _ => rfl

theorem sndOf_sndSet {v : BitVec 2} (h : v ≠ 3) (f : BitVec 8) : sndOf (.sndSet v f) = some (v, f) := if_neg h

/-- Where what is held offered is what the sub-step offers, its effect is held so too: only an offer that waits leaves
a port offering, and a sub-step that offers nothing finds no offer held. -/
theorem Effect.offersOk (h : Effect s t s') (hd : s.dispValid = true → taskDisp t = some (s.dispCmd, s.dispData))
    (hs : s.sndValid = true → taskSnd t = some (s.sndVoice, s.sndFreq)) : offersOk s' := by
  cases h with
  | romWaits i hi =>
    refine ⟨fun hv => ?_, fun hv => ?_⟩
    · cases (dispOf_of_readsRom hi).symm.trans (hd hv)
    · cases (sndOf_of_readsRom hi).symm.trans (hs hv)
  | dispSent i cmd data hi => exact ⟨nofun, fun hv => (nomatch (sndOf_of_dispOf hi).symm.trans (hs hv))⟩
  | dispWaits i cmd data hi => exact ⟨fun _ => hi, fun hv => (nomatch (sndOf_of_dispOf hi).symm.trans (hs hv))⟩
  | sndSent v f => exact ⟨fun hv => (nomatch hd hv), nofun⟩
  | sndWaits v f hv3 => exact ⟨fun hv => (nomatch hd hv), fun _ => sndOf_sndSet hv3 f⟩
  | _ => exact ⟨fun hv => (nomatch hd hv), fun hv => (nomatch hs hv)⟩

/-- Settles O18: reset offers nothing; else the held offers are those of the sub-step that runs. -/
theorem offersMatchAgenda : Obligations.OffersMatchAgenda := by
  unfold Obligations.OffersMatchAgenda
  intro s s' hoffers h
  obtain ⟨hdisp, hsnd⟩ := hoffers
  obtain ⟨-, rfl⟩ | ⟨-, heff⟩ := step_effect h
  · exact ⟨nofun, nofun⟩
  · exact heff.offersOk (fun hv => taskDisp_ran (hdisp hv)) (fun hv => taskSnd_ran (hsnd hv))

/-- A row that offers a display transaction is that offer. -/
theorem exec_of_dispOf {i : Instr} {cmd : BitVec 2} {data : BitVec 64} (h : dispOf i = some (cmd, data)) (s : State) :
    exec i s = .next (s.offerDisp i cmd data) := by
  cases i with
  | dispSetwin | dispBegin | dispPixel => cases h; rfl
  | _ => cases h

/-- A row that offers a sound transaction is that offer. -/
theorem exec_of_sndOf {i : Instr} {v : BitVec 2} {f : BitVec 8} (h : sndOf i = some (v, f)) (s : State) :
    exec i s = .next (s.offerSnd i v f) := by
  cases i with
  | sndSet v' f' =>
    rw [sndOf] at h
    split at h
    next => cases h
    next hv => cases h; exact execSndSet_offers hv f s
  | _ => cases h

/-- Settles O17: the sub-step that runs is the offer held, and its port accepts it or not. -/
theorem offeredTransactionHeld : Obligations.OfferedTransactionHeld := by
  unfold Obligations.OfferedTransactionHeld
  intro s hoffers hrst
  obtain ⟨hdisp, hsnd⟩ := hoffers
  refine ⟨fun hv => ?display, fun hv => ?sound⟩
  case display =>
    obtain ⟨i, rest, htodo, hi⟩ := headOffersDisp_cases (hdisp hv)
    refine ⟨_, (step_runs hrst htodo).trans (exec_of_dispOf hi _), fun hready => ?_, fun hbusy => ?_⟩
    · rw [offerDisp_ready (by exact hready), htodo]
      exact ⟨rfl, rfl, rfl⟩
    · rw [offerDisp_busy (by exact hbusy)]
      simp only [State.begin, hv, htodo]
  case sound =>
    obtain ⟨i, rest, htodo, hi⟩ := headOffersSnd_cases (hsnd hv)
    refine ⟨_, (step_runs hrst htodo).trans (exec_of_sndOf hi _), fun hready => ?_, fun hbusy => ?_⟩
    · rw [offerSnd_ready (by exact hready), htodo]
      exact ⟨rfl, rfl, rfl⟩
    · rw [offerSnd_busy (by exact hbusy)]
      simp only [State.begin, hv, htodo]

/-! ### Silence (R181, law d) -/

/-- The silence invariant, of the two fields it is about. -/
def Silent (muted : Bool) (todo : List Task) : Prop :=
  (muted = true → (todo.all fun t => !loud t) = true) ∧ quietBehindMute todo = true

theorem Silent.cons {muted : Bool} {todo : List Task} (h : Silent muted todo) (hloud : muted = true → loud t = false)
    (hmute : mayMute t = true → (todo.all fun t => !loud t) = true) : Silent muted (t :: todo) := by
  obtain ⟨hquiet, hbehind⟩ := h
  refine ⟨fun hm => ?_, ?_⟩
  · rw [List.all_cons, hloud hm, hquiet hm]
    rfl
  · rw [quietBehindMute, hbehind, Bool.and_true]
    cases hmay : mayMute t with
    | false => rfl
    | true => simpa using hmute hmay

/-- Sub-steps that do not mute, and are quiet while MUTED, may be put before a silent agenda. -/
theorem Silent.push {muted : Bool} {todo ts : List Task} (h : Silent muted todo)
    (hmute : ∀ t ∈ ts, mayMute t = false) (hloud : muted = true → ∀ t ∈ ts, loud t = false) :
    Silent muted (ts ++ todo) := by
  induction ts with
  | nil => exact h
  | cons t ts ih =>
    refine (ih (fun u hu => hmute u (.tail _ hu)) fun hm u hu => hloud hm u (.tail _ hu)).cons ?_ ?_
    · exact fun hm => hloud hm t (.head _)
    · intro hmay
      rw [hmute t (.head _)] at hmay
      cases hmay

/-- An agenda with nothing loud may stand while MUTED. -/
theorem Silent.mute {muted : Bool} {todo : List Task} (h : Silent muted todo)
    (hquiet : (todo.all fun t => !loud t) = true) (m : Bool) : Silent m todo := ⟨fun _ => hquiet, h.2⟩

theorem Silent.unmute {muted : Bool} {todo : List Task} (h : Silent muted todo) : Silent false todo := ⟨nofun, h.2⟩

/-- The sub-steps of a frame neither sound nor mute. -/
theorem frameTasks_quiet {c : Params} (h : t ∈ frameTasks c) : mayMute t = false ∧ loud t = false := by
  simp only [frameTasks, List.mem_append, List.mem_flatMap, List.mem_cons, List.not_mem_nil, or_false] at h
  obtain ⟨r, -, rfl | rfl | rfl⟩ | rfl := h <;> exact ⟨rfl, rfl⟩

/-- The transactions of a line offer at the display port. -/
theorem dispOf_renderOps {c : Params} {line : List Colour} {r : Nat} {i : Instr} (h : i ∈ renderOps c line r) :
    ∃ p, dispOf i = some p := by
  simp only [renderOps, List.mem_cons, List.mem_flatten, List.mem_replicate] at h
  obtain rfl | rfl | ⟨l, ⟨-, rfl⟩, hi⟩ := h
  · exact ⟨_, rfl⟩
  · exact ⟨_, rfl⟩
  · obtain ⟨v, -, rfl⟩ := List.mem_map.1 hi
    exact ⟨_, rfl⟩

theorem quiet_of_dispOf {i : Instr} {p : BitVec 2 × BitVec 64} (h : dispOf i = some p) :
    mayMute (.op i) = false ∧ loud (.op i) = false := by
  cases i with
  | dispSetwin | dispBegin | dispPixel => exact ⟨rfl, rfl⟩
  | _ => cases h

theorem renderTasks_quiet {c : Params} {line : List Colour} {r : Nat}
    (h : t ∈ (renderOps c line r).map .op) : mayMute t = false ∧ loud t = false := by
  obtain ⟨i, hi, rfl⟩ := List.mem_map.1 h
  obtain ⟨p, hp⟩ := dispOf_renderOps hi
  exact quiet_of_dispOf hp

/-- The three writes of a silence, and what follows them, neither sound nor mute. -/
theorem silence_quiet {ts : List Task} (hts : ∀ t ∈ ts, mayMute t = false ∧ loud t = false)
    (h : t ∈ voiceTasks 0 0 0 ++ ts) : mayMute t = false ∧ loud t = false := by
  rcases List.mem_append.1 h with hv | hv
  · simp only [voiceTasks, List.mem_cons, List.not_mem_nil, or_false] at hv
    obtain rfl | rfl | rfl := hv <;> exact ⟨rfl, rfl⟩
  · exact hts t hv

theorem forall_mem_pair {p : Task → Prop} {a b : Task} (ha : p a) (hb : p b) : ∀ t ∈ [a, b], p t :=
  List.forall_mem_cons.2 ⟨ha, List.forall_mem_singleton.2 hb⟩

theorem Silent.pushQuiet {muted : Bool} {todo ts : List Task} (h : Silent muted todo)
    (hts : ∀ t ∈ ts, mayMute t = false ∧ loud t = false) : Silent muted (ts ++ todo) :=
  h.push (fun t ht => (hts t ht).1) fun _ t ht => (hts t ht).2

/-- A note's sub-steps do not mute. -/
theorem noteTasks_mayMute {f0 f1 f2 dc : BitVec 8} (h : t ∈ noteTasks f0 f1 f2 dc) : mayMute t = false := by
  simp only [noteTasks, voiceTasks, List.mem_append, List.mem_cons, List.not_mem_nil, or_false] at h
  obtain (rfl | rfl | rfl) | rfl := h <;> rfl

theorem advances_mayMute {f : Option Cursor} {ts : List Task} (h : Advances f ts) (ht : t ∈ ts) :
    mayMute t = false := by
  cases h with
  | empty => exact (silence_quiet (forall_mem_pair ⟨rfl, rfl⟩ ⟨rfl, rfl⟩) ht).1
  | plays c rec =>
    rcases List.mem_append.1 ht with hn | hn
    · exact noteTasks_mayMute hn
    · simp only [List.mem_cons, List.not_mem_nil, or_false] at hn
      obtain rfl | rfl := hn <;> rfl

/-- The silence invariant over one effect: the agenda behind the sub-step is silent, while MUTED the sub-step is not
loud, and behind one that may mute nothing is. -/
theorem Effect.silenceOk (h : Effect s t s') (hsilent : Silent s.muted s.todo)
    (hloud : s.muted = true → loud t = false)
    (hmute : mayMute t = true → (s.todo.all fun t => !loud t) = true) : Silent s'.muted s'.todo := by
  cases h with
  | romWaits | dispWaits | sndWaits => exact hsilent.cons hloud hmute
  | decodeFrame => exact hsilent.pushQuiet fun t ht => frameTasks_quiet ht
  | renderLine => exact hsilent.pushQuiet fun t ht => renderTasks_quiet ht
  | note => exact hsilent.push (fun t ht => noteTasks_mayMute ht) fun hm => nomatch hloud hm
  | advance hts => exact hsilent.push (fun t ht => advances_mayMute hts ht) fun hm => nomatch hloud hm
  | mutedFallback => exact hsilent.pushQuiet fun t ht => silence_quiet (List.forall_mem_singleton.2 ⟨rfl, rfl⟩) ht
  | songEmptyPause =>
    exact hsilent.pushQuiet fun t ht => silence_quiet (forall_mem_pair ⟨rfl, rfl⟩ ⟨rfl, rfl⟩) ht
  | iterate =>
    have hticks : Silent s.muted ([.op .videoTick, .op .audioTick] ++ s.todo) :=
      hsilent.pushQuiet (forall_mem_pair ⟨rfl, rfl⟩ ⟨rfl, rfl⟩)
    have hrequest : Silent s.muted (.request :: ([.op .videoTick, .op .audioTick] ++ s.todo)) :=
      hticks.cons (fun _ => rfl) fun _ => hmute rfl
    exact hrequest.cons (fun _ => rfl) nofun
  | mute =>
    exact (hsilent.mute (hmute rfl) true).pushQuiet fun t ht =>
      silence_quiet (forall_mem_pair ⟨rfl, rfl⟩ ⟨rfl, rfl⟩) ht
  | unmute => exact hsilent.unmute
  | videoDue => exact hsilent.pushQuiet (forall_mem_pair ⟨rfl, rfl⟩ ⟨rfl, rfl⟩)
  | audioDue =>
    refine hsilent.push (forall_mem_pair ?_ rfl) fun hm => forall_mem_pair ?_ rfl
    · cases s.muted <;> rfl
    · rw [hm]
      rfl
  | requestMute => exact hsilent.cons (fun _ => rfl) fun _ => hmute rfl
  | requestUnmute => exact hsilent.cons (fun _ => rfl) nofun
  | _ => exact hsilent

/-- A row with a bit encoding does not mute. -/
theorem mayMute_of_encode {i : Instr} (h : encode i ≠ none) : mayMute (.op i) = false := by
  cases i with
  | mute | iterate => exact absurd rfl h
  | _ => rfl

/-- Where the silence invariant holds, what is left of the agenda is silent, the sub-step that runs is not loud while
MUTED, and behind one that may mute nothing is loud. -/
theorem silenceOk_poised (h : silenceOk s) :
    Silent s.muted s.todo.tail ∧ (s.muted = true → loud (ran s) = false) ∧
      (mayMute (ran s) = true → (s.todo.tail.all fun t => !loud t) = true) := by
  obtain ⟨hquiet, hbehind⟩ := h
  rw [ran_eq_decodedTask]
  cases htodo : s.todo with
  | nil =>
    refine ⟨⟨fun _ => rfl, rfl⟩, fun _ => ?_, fun _ => rfl⟩
    rw [running, htodo]
    cases s.phase <;> rfl
  | cons t rest =>
    rw [running_of_todo htodo]
    rw [htodo, quietBehindMute, Bool.and_eq_true] at hbehind
    rw [htodo] at hquiet
    simp only [List.all_cons, Bool.and_eq_true, Bool.not_eq_true'] at hquiet
    refine ⟨⟨fun hm => (hquiet hm).2, hbehind.2⟩, fun hm => ?_, fun hmay => ?_⟩
    · obtain hself | ⟨nbits, w, i, rfl, -, -⟩ := decodedTask_cases t
      · rw [hself]
        exact (hquiet hm).1
      · cases (hquiet hm).1
    · obtain hself | ⟨nbits, w, i, -, hi, hdec⟩ := decodedTask_cases t
      · rw [hself] at hmay
        simpa [hmay] using hbehind.1
      · rw [hi, mayMute_of_encode (encode_of_decodeTableWord hdec)] at hmay
        cases hmay

/-- Settles O54. -/
theorem silenceScheduled : Obligations.SilenceScheduled := by
  unfold Obligations.SilenceScheduled
  intro s s' hsilence h
  obtain ⟨-, rfl⟩ | ⟨-, heff⟩ := step_effect h
  · exact ⟨nofun, rfl⟩
  · obtain ⟨hsilent, hloud, hmute⟩ := silenceOk_poised hsilence
    exact heff.silenceOk hsilent hloud hmute

/-- Settles O55: while MUTED the sub-step that runs is not loud, and only a loud one sounds. -/
theorem silenceWhileMuted : Obligations.SilenceWhileMuted := by
  unfold Obligations.SilenceWhileMuted
  intro s s' hsilence hmuted h
  obtain ⟨-, rfl⟩ | ⟨-, heff⟩ := step_effect h
  · exact ⟨[], (List.append_nil _).symm, by simp⟩
  · obtain ⟨-, hloud, -⟩ := silenceOk_poised hsilence
    obtain ⟨evs, hemits⟩ := heff.emits
    refine ⟨evs, hemits.trace, fun e he => ?_⟩
    by_contra hsounds
    have hran := hemits.quiet e he (by simpa using hsounds)
    rw [hloud hmuted] at hran
    cases hran

end Sys2Proof.Machine
end

section
/-! Progress (R13, R200): an admitted sub-step answers a next state whose agenda is admitted again, and the one stop is
a clock sample that breaks the environment's duty (R215, R216). The reset state meets the invariants. -/

namespace Sys2Proof.Machine

open Sys2Proof.Safety

variable {s s' : State} {t : Task}

/-! ### Numbers that fit their registers -/

theorem toNat_ofNat_of_lt {n w : Nat} (h : n < 2 ^ w) : (BitVec.ofNat w n).toNat = n := by
  rw [BitVec.toNat_ofNat, Nat.mod_eq_of_lt h]

theorem toNat_nextFrame {c : Params} (h : c.legal = true) (f : BitVec 8) :
    (nextFrame c f).toNat = (f.toNat + 1) % c.nf := by
  obtain ⟨-, -, -, -, hnf, hnf', -, -⟩ := legal_counts h
  have hlt := Nat.mod_lt (f.toNat + 1) hnf
  exact toNat_ofNat_of_lt (by omega)

theorem nextFrame_lt {c : Params} (h : c.legal = true) (f : BitVec 8) : (nextFrame c f).toNat < c.nf := by
  obtain ⟨-, -, -, -, hnf, -⟩ := legal_counts h
  rw [toNat_nextFrame h]
  exact Nat.mod_lt _ hnf

/-- A source row's number fits ROW, and its last display row lies on the display (R117, R118). -/
theorem legal_row {c : Params} (h : c.legal = true) {r : Nat} (hr : r < c.rs) :
    r < 2 ^ 16 ∧ r * c.s + c.s ≤ c.h := by
  obtain ⟨hs, -, -, -, hh, -, hrs⟩ := legal_geometry h
  have hlast : (r + 1) * c.s ≤ c.rs * c.s := Nat.mul_le_mul_right _ hr
  have hle : r * 1 ≤ r * c.s := Nat.mul_le_mul_left _ hs
  rw [Nat.add_mul, Nat.one_mul] at hlast
  omega

/-! ### What is scheduled is admitted -/

theorem windowOf_admitted {c : Params} (h : c.legal = true) {r : Nat} (hr : r < c.rs) :
    (windowOf c r).admitted c = true := by
  obtain ⟨hs, hw, hw', -, hh, -, -⟩ := legal_geometry h
  obtain ⟨-, hlast⟩ := legal_row h hr
  simp only [windowOf, Instr.admitted, Bool.and_eq_true, decide_eq_true_eq]
  rw [toNat_ofNat_of_lt (n := r * c.s) (by omega), toNat_ofNat_of_lt (n := c.w - 1) (by omega),
    toNat_ofNat_of_lt (n := r * c.s + c.s - 1) (by omega)]
  exact ⟨⟨⟨Nat.zero_le _, by omega⟩, by omega⟩, by omega⟩

theorem renderOps_admitted {c : Params} (h : c.legal = true) {r : Nat} (hr : r < c.rs) {line : List Colour} {i : Instr}
    (hi : i ∈ renderOps c line r) : i.admitted c = true := by
  simp only [renderOps, List.mem_cons, List.mem_flatten, List.mem_replicate] at hi
  obtain rfl | rfl | ⟨l, ⟨-, rfl⟩, hi⟩ := hi
  · exact windowOf_admitted h hr
  · rfl
  · obtain ⟨v, -, rfl⟩ := List.mem_map.1 hi
    rfl

/-- Every sub-step of a list is admitted. -/
abbrev AllAdmitted (c : Params) (ts : List Task) : Prop := ∀ t ∈ ts, taskAdmitted c t = true

theorem AllAdmitted.nil (c : Params) : AllAdmitted c [] := List.forall_mem_nil _

theorem AllAdmitted.cons {c : Params} {ts : List Task} (ht : taskAdmitted c t = true) (hts : AllAdmitted c ts) :
    AllAdmitted c (t :: ts) := List.forall_mem_cons.2 ⟨ht, hts⟩

theorem AllAdmitted.append {c : Params} {ts us : List Task} (hts : AllAdmitted c ts) (hus : AllAdmitted c us) :
    AllAdmitted c (ts ++ us) := List.forall_mem_append.2 ⟨hts, hus⟩

theorem frameTasks_admitted {c : Params} (h : c.legal = true) : AllAdmitted c (frameTasks c) := by
  intro t ht
  simp only [frameTasks, List.mem_append, List.mem_flatMap, List.mem_range, List.mem_cons, List.not_mem_nil,
    or_false] at ht
  obtain ⟨r, hr, rfl | rfl | rfl⟩ | rfl := ht
  · exact decide_eq_true (by rwa [toNat_ofNat_of_lt (legal_row h hr).1])
  · rfl
  · exact decide_eq_true (by rwa [toNat_ofNat_of_lt (legal_row h hr).1])
  · rfl

theorem renderTasks_admitted {c : Params} (h : c.legal = true) {r : Nat} (hr : r < c.rs) (line : List Colour) :
    AllAdmitted c ((renderOps c line r).map .op) := by
  intro t ht
  obtain ⟨i, hi, rfl⟩ := List.mem_map.1 ht
  exact renderOps_admitted h hr hi

theorem voiceTasks_admitted (c : Params) (f0 f1 f2 : BitVec 8) : AllAdmitted c (voiceTasks f0 f1 f2) :=
  .cons rfl (.cons rfl (.cons rfl (.nil _)))

theorem noteTasks_admitted (c : Params) (f0 f1 f2 dc : BitVec 8) : AllAdmitted c (noteTasks f0 f1 f2 dc) :=
  (voiceTasks_admitted c f0 f1 f2).append (.cons rfl (.nil _))

theorem playTasks_admitted {c : Params} {p : Cursor} (hp : p.pos.toNat < c.k) (rec : BitVec 32) :
    AllAdmitted c (playTasks rec p) :=
  (noteTasks_admitted c _ _ _ _).append (.cons (decide_eq_true hp) (.cons rfl (.nil _)))

/-- NORMALISE finds positions below `K` only (R142). -/
theorem scan_found_lt {n p i : Nat} (hk : s.cfg.k ≤ 256) (hp : p < s.cfg.k) {c : Cursor}
    (hc : (State.scan n p i s).retFound = some c) : c.pos.toNat < s.cfg.k := by
  induction n generalizing p i s with
  | zero => cases hc
  | succ n ih =>
    obtain ⟨m, st, d, hmeas, -⟩ := meas_effect p s
    unfold State.scan at hc
    split at hc
    · cases hc
      show (BitVec.ofNat 8 p).toNat < s.cfg.k
      rwa [toNat_ofNat_of_lt (by omega)]
    · have hcfg : (s.meas p).cfg = s.cfg := by rw [hmeas]
      rw [← hcfg] at hk ⊢
      exact ih hk (by rw [hcfg]; exact Nat.mod_lt _ (by omega)) hc

theorem normalise_found_lt (hlegal : s.cfg.legal = true) {pos idx : BitVec 8} {c : Cursor}
    (hc : (s.normalise pos idx).retFound = some c) : c.pos.toNat < s.cfg.k := by
  obtain ⟨hk, hk', -⟩ := legal_counts hlegal
  exact scan_found_lt hk' (Nat.mod_lt _ hk) hc

theorem Advances.admitted {f : Option Cursor} {ts : List Task} {p : Params} (h : Advances f ts)
    (hf : ∀ c, f = some c → c.pos.toNat < p.k) : AllAdmitted p ts := by
  cases h with
  | empty => exact (voiceTasks_admitted p 0 0 0).append (.cons rfl (.cons rfl (.nil _)))
  | plays c rec => exact playTasks_admitted (hf c rfl) rec

/-- An admitted sub-step leaves an admitted agenda. -/
theorem Effect.admitted (h : Effect s t s') (hlegal : s.cfg.legal = true) (htodo : AllAdmitted s.cfg s.todo)
    (ht : taskAdmitted s.cfg t = true) : AllAdmitted s.cfg s'.todo := by
  cases h with
  | romWaits | dispWaits | sndWaits => exact htodo.cons ht
  | decodeFrame => exact (frameTasks_admitted hlegal).append htodo
  | renderLine r => exact (renderTasks_admitted hlegal (of_decide_eq_true ht) s.line).append htodo
  | note f0 f1 f2 dc => exact (noteTasks_admitted s.cfg f0 f1 f2 dc).append htodo
  | advance hts => exact (hts.admitted fun c hc => normalise_found_lt hlegal hc).append htodo
  | mutedFallback => exact ((voiceTasks_admitted s.cfg 0 0 0).append (.cons rfl (.nil _))).append htodo
  | songEmptyPause | mute =>
    exact ((voiceTasks_admitted s.cfg 0 0 0).append (.cons rfl (.cons rfl (.nil _)))).append htodo
  | iterate => exact .cons rfl (.cons rfl (.cons rfl (.cons rfl htodo)))
  | videoDue => exact .cons (decide_eq_true (nextFrame_lt hlegal s.frameIdx)) (.cons rfl htodo)
  | audioDue =>
    refine .cons ?_ (.cons rfl htodo)
    cases s.muted <;> rfl
  | requestMute | requestUnmute => exact htodo.cons rfl
  | _ => exact htodo

/-! ### The one stop -/

/-- The row takes a clock sample (R180). -/
def rowSamples (i : Instr) (s : State) : Bool :=
  match i with
  | .init => s.pins.romAck
  | .videoTick => true
  | .audioTick => true
  | .mute => !s.muted
  | .unmute => s.muted
  | _ => false

theorem withRom_progress (s : State) (i : Instr) (go : State) : ∃ s', s.withRom i go = .next s' := by
  unfold State.withRom
  split <;> exact ⟨_, rfl⟩

/-- An admitted row answers a next state, unless it takes a sample that breaks the clock's duty. -/
theorem exec_progress {i : Instr} (hlegal : s.cfg.legal = true) (hi : i.admitted s.cfg = true)
    (hclock : rowSamples i s = true → s.clockKept = true) : ∃ s', exec i s = .next s' := by
  cases i with
  | dispReserved => cases hi
  | sndSet v f => exact ⟨_, execSndSet_offers (voice_ne_three (of_decide_eq_true hi)) f s⟩
  | init =>
    cases hack : s.pins.romAck with
    | true => exact ⟨_, (if_pos hlegal).trans ((if_pos hack).trans (withClock_kept (hclock hack) _))⟩
    | false => exact ⟨_, execInit_noAck hack hlegal⟩
  | mute =>
    cases hm : s.muted with
    | true => exact ⟨_, execMute_muted hm⟩
    | false => exact ⟨_, execMute_playing hm (hclock (by rw [rowSamples, hm]; rfl))⟩
  | unmute =>
    cases hm : s.muted with
    | true => exact ⟨_, (if_pos hm).trans (withClock_kept (hclock hm) _)⟩
    | false => exact ⟨_, if_neg (by simp [hm])⟩
  | videoTick | audioTick => exact ⟨_, withClock_kept (hclock rfl) _⟩
  | decodeFrame | advance | meas | normalise | next => exact withRom_progress _ _ _
  | seq m =>
    show ∃ s', execSeq m s = .next s'
    unfold execSeq
    split
    · exact ⟨_, rfl⟩
    · exact withRom_progress _ _ _
  | durLookup c =>
    show ∃ s', execDurLookup c s = .next s'
    unfold execDurLookup
    split
    · exact ⟨_, rfl⟩
    · exact withRom_progress _ _ _
  | decodeRow =>
    show ∃ s', execDecodeRow s = .next s'
    unfold execDecodeRow
    split
    · exact ⟨_, rfl⟩
    · exact withRom_progress _ _ _
  | _ => exact ⟨_, rfl⟩

/-- A row that takes a sample that breaks the clock's duty is refused (R216). -/
theorem exec_clock_broken {i : Instr} (hlegal : s.cfg.legal = true) (hsamples : rowSamples i s = true)
    (hclock : s.clockKept = false) : exec i s = .refused .clockAssumption := by
  cases i with
  | init => exact (if_pos hlegal).trans ((if_pos hsamples).trans (withClock_broken hclock _))
  | mute => exact (if_neg (by simpa [rowSamples] using hsamples)).trans (withClock_broken hclock _)
  | unmute => exact (if_pos hsamples).trans (withClock_broken hclock _)
  | videoTick | audioTick => exact withClock_broken hclock _
  | _ => cases hsamples

/-- A row with a bit encoding takes no sample. -/
theorem rowSamples_of_encode {i : Instr} (h : encode i ≠ none) (s : State) : rowSamples i s = false := by
  cases i with
  | init | videoTick | audioTick | mute | unmute => exact absurd rfl h
  | _ => rfl

/-- The coming step takes a sample exactly where its row does. -/
theorem samplesClock_op {i : Instr} (h : running s = .op i) : samplesClock s = rowSamples i s.poised := by
  rw [samplesClock, h]
  cases i <;> rfl

/-- The sub-step the next step runs is admitted. -/
theorem running_admitted (h : agendaOk s) : taskAdmitted s.cfg (running s) = true := by
  obtain ⟨-, hadm⟩ := h
  cases htodo : s.todo with
  | nil =>
    rw [running, htodo]
    cases s.phase <;> rfl
  | cons t rest =>
    rw [running_of_todo htodo]
    exact hadm t (by rw [htodo]; exact .head _)

theorem decodedTask_admitted {c : Params} (h : taskAdmitted c t = true) : taskAdmitted c (decodedTask t) = true := by
  cases t with
  | word nbits w =>
    cases hdec : decodeTableWord nbits w with
    | none => simp [taskAdmitted, hdec] at h
    | some i =>
      rw [decodedTask_word hdec]
      simpa [taskAdmitted, hdec] using h
  | _ => exact h

theorem tail_admitted (h : agendaOk s) : AllAdmitted s.cfg s.todo.tail :=
  fun t ht => h.2 t (List.mem_of_mem_tail ht)

/-- Every step keeps the agenda admitted. -/
theorem step_agendaOk (h : agendaOk s) (hstep : step s = .next s') : agendaOk s' := by
  obtain ⟨-, rfl⟩ | ⟨-, heff⟩ := step_effect hstep
  · exact ⟨h.1, nofun⟩
  · obtain ⟨hcfg, -⟩ := heff.cfg_rom
    have hran : taskAdmitted s.cfg (ran s) = true := by
      rw [ran_eq_decodedTask]
      exact decodedTask_admitted (running_admitted h)
    have htodo := heff.admitted h.1 (tail_admitted h) hran
    refine ⟨by rw [hcfg]; exact h.1, ?_⟩
    rw [hcfg]
    exact htodo

/-- A sub-step of an admitted agenda answers a next state, unless it takes a sample that breaks the clock's duty. -/
theorem runTask_progress (hlegal : s.cfg.legal = true) (ht : taskAdmitted s.cfg t = true)
    (hclock : ∀ i, t = .op i → rowSamples i s = true → s.clockKept = true) : ∃ s', runTask t s = .next s' := by
  cases t with
  | op i => exact exec_progress hlegal ht (hclock i rfl)
  | word nbits w =>
    cases hdec : decodeTableWord nbits w with
    | none => simp [taskAdmitted, hdec] at ht
    | some i =>
      rw [runTask_word hdec]
      refine exec_progress hlegal (by simpa [taskAdmitted, hdec] using ht) fun hsamples => ?_
      rw [rowSamples_of_encode (encode_of_decodeTableWord hdec)] at hsamples
      cases hsamples
  | _ => exact ⟨_, rfl⟩

/-- Where the coming step breaks the clock's duty, it is the step of a row that samples. -/
theorem samplesClock_row (h : samplesClock s = true) : ∃ i, running s = .op i := by
  unfold samplesClock at h
  cases hrun : running s with
  | op i => exact ⟨i, rfl⟩
  | _ => rw [hrun] at h; cases h

/-- Settles O53: under reset a step resets; else the sub-step goes on, or its sample is the one refused. -/
theorem stepsNeverFail : Obligations.StepsNeverFail := by
  unfold Obligations.StepsNeverFail
  intro s hagenda
  refine ⟨fun hduty => ?progress, fun hduty => ?stop⟩
  case progress =>
    suffices hnext : ∃ s', step s = .next s' by
      obtain ⟨s', hstep⟩ := hnext
      exact ⟨s', hstep, step_agendaOk hagenda hstep⟩
    cases hrst : s.nextPins.rst with
    | true => exact ⟨_, step_resets hrst⟩
    | false =>
      rw [step_eq_runTask hrst]
      refine runTask_progress (s := s.poised) hagenda.1 (running_admitted hagenda) fun i hi hsamples => ?_
      rw [dutyKept, hrst, samplesClock_op hi, hsamples] at hduty
      exact hduty
  case stop =>
    simp only [dutyKept, Bool.or_eq_false_iff, Bool.not_eq_false'] at hduty
    obtain ⟨⟨hrst, hsamples⟩, hclock⟩ := hduty
    obtain ⟨i, hi⟩ := samplesClock_row hsamples
    rw [samplesClock_op hi] at hsamples
    rw [step_eq_runTask hrst, hi]
    exact exec_clock_broken (s := s.poised) hagenda.1 hsamples hclock

/-- Settles O60. -/
theorem resetMeetsInvariants : Obligations.ResetMeetsInvariants := by
  unfold Obligations.ResetMeetsInvariants
  intro c hlegal
  obtain ⟨hk, -, -, -, hnf, -⟩ := legal_counts hlegal
  refine ⟨⟨hlegal, nofun⟩, ?registers, ⟨.inl rfl, .inl rfl⟩, ⟨nofun, nofun⟩, nofun, rfl⟩
  case registers =>
    exact ⟨by simp [State.resetWith], legal_rs_pos hlegal, Nat.zero_le _, hnf, hk, clkMod_pos c, clkMod_pos c,
      clkMod_pos c, BitVec.getLsbD_zero, rfl⟩

end Sys2Proof.Machine
end

section
/-! ROM reads as values (20_memory.md): every byte of a read (R52, R53), the tables of a legal block inside the ROM
(R7, R54), and the look-ups that read one table entry. -/

namespace Sys2Proof.Machine

open Sys2Proof.Safety

variable {s : State}

/-! ### A read, byte by byte -/

/-- The low byte of a read is the first byte read. -/
theorem memRead_succ_fst (s : State) (a n : Nat) :
    (s.memRead a (n + 1)).1 = (s.romByte a).1.toNat + 256 * (State.memRead (s.romByte a).2 (a + 1) n).1 := rfl

theorem memRead_succ_snd (s : State) (a n : Nat) :
    (s.memRead a (n + 1)).2 = (State.memRead (s.romByte a).2 (a + 1) n).2 := rfl

theorem romByte_cfg_rom (s : State) (a : Nat) : (s.romByte a).2.cfg = s.cfg ∧ (s.romByte a).2.rom = s.rom := by
  obtain ⟨st, d, h, -⟩ := romByte_effect s a
  rw [h]
  exact ⟨rfl, rfl⟩

/-- Byte `k` of a read that exists is the ROM's byte (R52). -/
theorem memRead_byte (s : State) (a n k : Nat) (hk : k < n) (hin : (a + k) % 2 ^ 32 < s.cfg.romSize) :
    (s.memRead a n).1 / 2 ^ (8 * k) % 2 ^ 8 = (Memory.read s.rom ((a + k) % 2 ^ 32)).toNat := by
  induction n generalizing s a k with
  | zero => omega
  | succ n ih =>
    rw [memRead_succ_fst]
    cases k with
    | zero =>
      rw [romByte_inRom (by simpa using hin)]
      have hlt := (Memory.read s.rom (a % 2 ^ 32)).isLt
      simp only [Nat.mul_zero, Nat.pow_zero, Nat.div_one, Nat.add_zero]
      omega
    | succ k =>
      obtain ⟨hcfg, hrom⟩ := romByte_cfg_rom s a
      have hnext := ih (s.romByte a).2 (a + 1) k (by omega) (by rwa [hcfg, show a + 1 + k = a + (k + 1) by omega])
      rw [hrom, show a + 1 + k = a + (k + 1) by omega] at hnext
      rw [← hnext, show 8 * (k + 1) = 8 + 8 * k by omega, Nat.pow_add, ← Nat.div_div_eq_div_mul]
      have hlt := (s.romByte a).1.isLt
      congr 2
      omega

theorem memRead_lt (s : State) (a n : Nat) : (s.memRead a n).1 < 2 ^ (8 * n) := by
  induction n generalizing s a with
  | zero => exact Nat.one_pos
  | succ n ih =>
    have hrest := ih (s.romByte a).2 (a + 1)
    have hlt := (s.romByte a).1.isLt
    rw [memRead_succ_fst, show 8 * (n + 1) = 8 * n + 8 by omega, Nat.pow_add]
    omega

/-- How many of the `n` bytes from `a` on lie past the ROM. -/
theorem pastRom_succ (s : State) (a n : Nat) :
    ((List.range (n + 1)).filter fun k => s.cfg.romSize ≤ (a + k) % 2 ^ 32).length =
      (if s.cfg.romSize ≤ a % 2 ^ 32 then 1 else 0) +
        ((List.range n).filter fun k => s.cfg.romSize ≤ (a + 1 + k) % 2 ^ 32).length := by
  have hshift : ((List.range n).map (· + 1)).filter (fun k => decide (s.cfg.romSize ≤ (a + k) % 2 ^ 32)) =
      ((List.range n).filter fun k => decide (s.cfg.romSize ≤ (a + 1 + k) % 2 ^ 32)).map (· + 1) := by
    rw [List.filter_map]
    congr 1
    apply List.filter_congr
    intro k _
    rw [Function.comp_apply, show a + (k + 1) = a + 1 + k by omega]
  rw [List.range_succ_eq_map, List.filter_cons, hshift, Nat.add_zero]
  by_cases h : s.cfg.romSize ≤ a % 2 ^ 32
  · rw [if_pos (decide_eq_true h), if_pos h, List.length_cons, List.length_map, Nat.add_comm]
  · rw [if_neg (by rwa [decide_eq_true_eq]), if_neg h, List.length_map, Nat.zero_add]

/-- A read flags ROM_RANGE where a byte does not exist, and draws one value for each such byte (R53). -/
theorem memRead_state (s : State) (a n : Nat) :
    (s.memRead a n).2 = { s with
      status := if inRom s a n = true then s.status else s.status ||| 0x40#8
      draws := s.draws + ((List.range n).filter fun k => s.cfg.romSize ≤ (a + k) % 2 ^ 32).length } := by
  induction n generalizing s a with
  | zero => rfl
  | succ n ih =>
    rw [memRead_succ_snd, ih, pastRom_succ]
    have hsucc : inRom s a (n + 1) = true ↔ a % 2 ^ 32 < s.cfg.romSize ∧ inRom s (a + 1) n = true := inRom_succ
    by_cases hin : a % 2 ^ 32 < s.cfg.romSize
    · rw [romByte_inRom hin, if_neg (Nat.not_le.2 hin), Nat.zero_add]
      by_cases hrest : inRom s (a + 1) n = true
      · rw [if_pos hrest, if_pos (hsucc.2 ⟨hin, hrest⟩)]
      · rw [if_neg hrest, if_neg fun h => hrest (hsucc.1 h).2]
    · have hbyte : (s.romByte a).2 = { s with status := s.status ||| 0x40#8, draws := s.draws + 1 } := by
        rw [State.romByte, if_neg hin]
        rfl
      rw [hbyte, if_pos (Nat.not_lt.1 hin), if_neg fun h => hin (hsucc.1 h).1, ← Nat.add_assoc]
      have honce : (if inRom { s with status := s.status ||| 0x40#8, draws := s.draws + 1 } (a + 1) n = true then
          s.status ||| 0x40#8 else s.status ||| 0x40#8 ||| 0x40#8) = s.status ||| 0x40#8 := by
        rw [BitVec.or_assoc, BitVec.or_self, ite_self]
      rw [honce]

/-- Settles O10. -/
theorem memReadBytesAndRange : Obligations.MemReadBytesAndRange := by
  unfold Obligations.MemReadBytesAndRange
  exact fun s a n => ⟨memRead_byte s a n, memRead_lt s a n, memRead_state s a n⟩

/-- DECODE_FRAME, from what its two reads answer (R110). -/
theorem decodeFrame_of_reads {s s1 s2 : State} {f : BitVec 8} {a n : Nat}
    (ha : s.memRead (fdirAddr s.cfg f.toNat) 4 = (a, s1)) (hn : s1.memRead (fdirAddr s.cfg f.toNat + 4) 4 = (n, s2)) :
    s.decodeFrame f = { s2 with
      rp := BitVec.ofNat 32 a, rem := BitVec.ofNat 32 n, todo := frameTasks s.cfg ++ s2.todo } := by
  simp only [State.decodeFrame, ha, hn, State.fdirWord, State.push]

/-! ### The tables lie in the ROM (R7, R54) -/

/-- Bytes below `ROM_SIZE` exist. -/
theorem inRom_of_le {a n : Nat} (h : a + n ≤ s.cfg.romSize) (hsize : s.cfg.romSize ≤ 2 ^ 32) :
    inRom s a n = true := by
  simp only [inRom, List.all_eq_true, List.mem_range, decide_eq_true_eq]
  intro k hk
  rw [Nat.mod_eq_of_lt (by omega)]
  omega

/-- A read below `ROM_SIZE` is the ROM's value and changes nothing. -/
theorem memRead_of_le {a n : Nat} (h : a + n ≤ s.cfg.romSize) (hsize : s.cfg.romSize ≤ 2 ^ 32) :
    s.memRead a n = (romVal s a n, s) := memRead_inRom (inRom_of_le h hsize)

section
variable (hlegal : s.cfg.legal = true)
include hlegal

theorem memRead_seq {p : Nat} (hp : p < s.cfg.k) :
    s.memRead (seqAddr s.cfg p) 1 = (seqOf s p, s) := by
  obtain ⟨-, -, -, -, hseq, hsize⟩ := legal_tables hlegal
  exact memRead_of_le (by unfold seqAddr; omega) hsize

theorem memRead_mdirAddr {m : Nat} (hm : m < s.cfg.m) :
    s.memRead (mdirAddr s.cfg m) 4 = (romVal s (mdirAddr s.cfg m) 4, s) := by
  obtain ⟨-, -, -, hmdir, -, hsize⟩ := legal_tables hlegal
  exact memRead_of_le (by unfold mdirAddr; omega) hsize

theorem memRead_mdirCount {m : Nat} (hm : m < s.cfg.m) :
    s.memRead (mdirAddr s.cfg m + 4) 1 = (romVal s (mdirAddr s.cfg m + 4) 1, s) := by
  obtain ⟨-, -, -, hmdir, -, hsize⟩ := legal_tables hlegal
  exact memRead_of_le (by unfold mdirAddr; omega) hsize

theorem memRead_fdirAddr {f : Nat} (hf : f < s.cfg.nf) :
    s.memRead (fdirAddr s.cfg f) 4 = (romVal s (fdirAddr s.cfg f) 4, s) := by
  obtain ⟨-, hfdir, -, -, -, hsize⟩ := legal_tables hlegal
  exact memRead_of_le (by unfold fdirAddr; omega) hsize

theorem memRead_fdirWords {f : Nat} (hf : f < s.cfg.nf) :
    s.memRead (fdirAddr s.cfg f + 4) 4 = (romVal s (fdirAddr s.cfg f + 4) 4, s) := by
  obtain ⟨-, hfdir, -, -, -, hsize⟩ := legal_tables hlegal
  exact memRead_of_le (by unfold fdirAddr; omega) hsize

theorem memRead_dur {c : Nat} (hc : c < s.cfg.nd) :
    s.memRead (durAddr s.cfg c) 2 = (romVal s (durAddr s.cfg c) 2, s) := by
  obtain ⟨-, -, hdur, -, -, hsize⟩ := legal_tables hlegal
  exact memRead_of_le (by unfold durAddr; omega) hsize

theorem memRead_pal {i : Nat} (hi : i < 16) :
    s.memRead (palAddr s.cfg i) 4 = (romVal s (palAddr s.cfg i) 4, s) := by
  obtain ⟨hpal, -, -, -, -, hsize⟩ := legal_tables hlegal
  exact memRead_of_le (by unfold palAddr; omega) hsize

/-! ### DUR_LOOKUP, DECODE_FRAME, MEAS -/

/-- DUR_LOOKUP of a good code returns its entry (R145). -/
theorem durLookup_good {c : BitVec 8} (hc : c.toNat < s.cfg.nd) :
    s.durLookup c = { s with retDur := romVal s (durAddr s.cfg c.toNat) 2 } := by
  have hlt : romVal s (durAddr s.cfg c.toNat) 2 < 2 ^ 16 := romVal_lt s _ 2
  rw [State.durLookup, if_neg (Nat.not_le.2 hc)]
  simp only [State.readDur, memRead_dur hlegal hc, State.durWord, toNat_ofNat_of_lt hlt]

/-- DECODE_FRAME of a frame in range loads its directory entry (R84, R110). -/
theorem decodeFrame_good {f : BitVec 8} (hf : f.toNat < s.cfg.nf) :
    s.decodeFrame f = { s with
      rp := BitVec.ofNat 32 (romVal s (fdirAddr s.cfg f.toNat) 4)
      rem := BitVec.ofNat 32 (romVal s (fdirAddr s.cfg f.toNat + 4) 4)
      todo := frameTasks s.cfg ++ s.todo } :=
  decodeFrame_of_reads (memRead_fdirAddr hlegal hf) (memRead_fdirWords hlegal hf)

/-- The directory entry of a measure below `M` (R85, R141). -/
theorem readMdir_good {m : BitVec 8} (hm : m.toNat < s.cfg.m) :
    s.readMdir m = { s with retMeas :=
      ⟨BitVec.ofNat 32 (romVal s (mdirAddr s.cfg m.toNat) 4),
        BitVec.ofNat 8 (romVal s (mdirAddr s.cfg m.toNat + 4) 1)⟩ } := by
  simp only [State.readMdir, memRead_mdirAddr hlegal hm, memRead_mdirCount hlegal hm]
  rfl

theorem seqWord_good {m : BitVec 8} (hm : m.toNat < s.cfg.m) :
    s.seqWord m = { s with retMeas :=
      ⟨BitVec.ofNat 32 (romVal s (mdirAddr s.cfg m.toNat) 4),
        BitVec.ofNat 8 (romVal s (mdirAddr s.cfg m.toNat + 4) 1)⟩ } := by
  rw [State.seqWord, if_neg (Nat.not_le.2 hm), readMdir_good hlegal hm]

omit hlegal in
theorem seqWord_bad {m : BitVec 8} (hm : s.cfg.m ≤ m.toNat) :
    s.seqWord m = { s with retMeas := ⟨0, 0⟩, status := s.status ||| 0x10#8 } := if_pos hm

/-- MEAS(p) is the measure at position `p`, with SEQ_BAD for a bad entry (R141). -/
theorem meas_eq {p : Nat} (hp : p < s.cfg.k) :
    s.meas p = { s with
      retMeas := measOf s p
      status := if s.cfg.m ≤ seqOf s p then s.status ||| 0x10#8 else s.status } := by
  have hentry : (BitVec.ofNat 8 (seqOf s p)).toNat = seqOf s p := toNat_ofNat_of_lt (romVal_lt s _ 1)
  rw [State.meas, memRead_seq hlegal hp, measOf]
  by_cases hbad : s.cfg.m ≤ seqOf s p
  · rw [if_pos hbad, if_pos hbad]
    exact seqWord_bad (by rwa [hentry])
  · rw [if_neg hbad, if_neg hbad]
    have hword := seqWord_good hlegal (m := BitVec.ofNat 8 (seqOf s p)) (by rw [hentry]; exact Nat.not_le.1 hbad)
    rw [hentry] at hword
    exact hword

end

theorem durLookup_bad {c : BitVec 8} (hc : s.cfg.nd ≤ c.toNat) :
    s.durLookup c = { s with retDur := 0, status := s.status ||| 0x08#8 } := if_pos hc

/-- Settles O33. -/
theorem durLookupBounded : Obligations.DurLookupBounded := by
  unfold Obligations.DurLookupBounded
  intro s c
  refine ⟨fun hbad => ?_, fun hgood hlegal hack => ?_⟩
  · exact (if_pos hbad).trans (congrArg Host.Outcome.next (durLookup_bad hbad))
  · refine (if_neg (Nat.not_le.2 hgood)).trans ((withRom_ack hack _ _).trans ?_)
    rw [durLookup_good hlegal hgood]
    rfl

/-- Settles O25. -/
theorem decodeFrameStarts : Obligations.DecodeFrameStarts := by
  unfold Obligations.DecodeFrameStarts
  intro s f
  refine ⟨fun r rest hrst htodo => step_runs hrst htodo, fun a n => rfl, fun hlegal hf hack => ?_⟩
  refine (withRom_ack hack _ _).trans ?_
  rw [decodeFrame_good hlegal hf]
  rfl

/-- Settles O29. -/
theorem measReturnsMeasure : Obligations.MeasReturnsMeasure := by
  unfold Obligations.MeasReturnsMeasure
  intro s p hlegal hp hack
  exact (withRom_ack hack _ _).trans (congrArg Host.Outcome.next (meas_eq hlegal hp))

/-- Settles O30. -/
theorem audioWordsRun : Obligations.AudioWordsRun := by
  unfold Obligations.AudioWordsRun
  intro s
  refine ⟨fun m hbad => ?bad, fun m hgood hlegal hack => ?good, fun a n => rfl, fun t => rfl, fun f0 f1 f2 dc => rfl⟩
  case bad => exact (if_pos hbad).trans (congrArg Host.Outcome.next (seqWord_bad hbad))
  case good =>
    refine (if_neg (Nat.not_le.2 hgood)).trans ((withRom_ack hack _ _).trans ?_)
    rw [seqWord_good hlegal hgood]
    rfl

end Sys2Proof.Machine
end

section
/-! The audio sequencer's scans (41_audio.md): NORMALISE is the first playable cursor of its scan order, NEXT the first
note after the one played, ADVANCE the note found; and with them the cursor and the registers keep their ranges. -/

namespace Sys2Proof.Machine

open Sys2Proof.Safety

variable {s s' : State}

/-! ### What a look-up reads stays the same -/

/-- The measures are read from the ROM under the parameters, and nothing else (R58, R141). -/
theorem measOf_congr (hcfg : s'.cfg = s.cfg) (hrom : s'.rom = s.rom) (p : Nat) : measOf s' p = measOf s p := by
  show measOf { s with cfg := s'.cfg, rom := s'.rom } p = measOf s p
  rw [hcfg, hrom]

theorem cntOf_congr (hcfg : s'.cfg = s.cfg) (hrom : s'.rom = s.rom) (p : Nat) : cntOf s' p = cntOf s p := by
  rw [cntOf, measOf_congr hcfg hrom, cntOf]

theorem cursorOk_congr (hcfg : s'.cfg = s.cfg) (hrom : s'.rom = s.rom) {c : Cursor} (h : cursorOk s c) :
    cursorOk s' c := by
  rw [cursorOk, hcfg, cntOf_congr hcfg hrom]
  exact h

/-- `STATUS` as it was, or with SEQ_BAD (R141). -/
def SeqStatus (a b : BitVec 8) : Prop := b = a ∨ b = a ||| 0x10#8

theorem SeqStatus.trans {a b c : BitVec 8} (h : SeqStatus a b) (k : SeqStatus b c) : SeqStatus a c := by
  obtain rfl | rfl := h
  · exact k
  · obtain rfl | rfl := k
    · exact .inr rfl
    · exact .inr (by rw [BitVec.or_assoc, BitVec.or_self])

/-- MEAS at a position of the sequence: its count is the measure's, and only the pair and SEQ_BAD change (R141). -/
theorem meas_result (hlegal : s.cfg.legal = true) {p : Nat} (hp : p < s.cfg.k) :
    (s.meas p).cnt = cntOf s p ∧
      ∃ st, s.meas p = { s with retMeas := measOf s p, status := st } ∧ SeqStatus s.status st := by
  refine ⟨by rw [meas_eq hlegal hp]; rfl, _, meas_eq hlegal hp, ?_⟩
  split
  · exact .inr rfl
  · exact .inl rfl

/-! ### NORMALISE (R142) -/

/-- The cursors a scan of `n` positions tries: the first at position `p`, note `i`. -/
def scanFrom (k n p i : Nat) : List (Nat × Nat) := (List.range n).map fun j => ((p + j) % k, if j = 0 then i else 0)

theorem scanFrom_succ {k n p : Nat} (hp : p < k) (i : Nat) :
    scanFrom k (n + 1) p i = (p, i) :: scanFrom k n ((p + 1) % k) 0 := by
  simp only [scanFrom, List.range_succ_eq_map, List.map_cons, List.map_map, Nat.add_zero, if_true, ite_self,
    Nat.mod_eq_of_lt hp]
  congr 1
  apply List.map_congr_left
  intro j _
  simp only [Function.comp_apply, Nat.succ_eq_add_one, if_neg (Nat.succ_ne_zero j)]
  rw [Nat.mod_add_mod, show p + 1 + j = p + (j + 1) by omega]

/-- The first playable cursor of a list. -/
def findPlayable (s : State) (cs : List (Nat × Nat)) : Option Cursor :=
  (cs.find? fun c => c.2 < cntOf s c.1).map cursorOf

theorem findPlayable_cons_pos {c : Nat × Nat} (h : c.2 < cntOf s c.1) (cs : List (Nat × Nat)) :
    findPlayable s (c :: cs) = some (cursorOf c) := by
  simp only [findPlayable, List.find?_cons, h, decide_true, Option.map_some]

theorem findPlayable_cons_neg {c : Nat × Nat} (h : ¬c.2 < cntOf s c.1) (cs : List (Nat × Nat)) :
    findPlayable s (c :: cs) = findPlayable s cs := by
  simp only [findPlayable, List.find?_cons, h, decide_false]

/-- NORMALISE's scan, run at a state with the parameters and the ROM of `s`, finds the first playable cursor it
tries. -/
theorem scan_eq {t : State} {n p i : Nat} (hlegal : s.cfg.legal = true) (hcfg : t.cfg = s.cfg) (hrom : t.rom = s.rom)
    (hp : p < s.cfg.k) :
    ∃ m st, State.scan n p i t = { t with
        retFound := findPlayable s (scanFrom s.cfg.k n p i), retMeas := m, status := st } ∧
      SeqStatus t.status st := by
  induction n generalizing p i t with
  | zero => exact ⟨_, _, rfl, .inl rfl⟩
  | succ n ih =>
    obtain ⟨hcnt, st, hmeas, hst⟩ := meas_result (s := t) (by rwa [hcfg]) (by rwa [hcfg])
    have hk : t.cfg.k = s.cfg.k := congrArg Params.k hcfg
    rw [cntOf_congr hcfg hrom] at hcnt
    rw [scanFrom_succ hp, State.scan, hcnt]
    by_cases hplay : i < cntOf s p
    · rw [if_pos hplay, findPlayable_cons_pos hplay, hmeas]
      exact ⟨_, _, rfl, hst⟩
    · rw [if_neg hplay, findPlayable_cons_neg hplay, hmeas, hk]
      obtain ⟨m', st', hscan, hst'⟩ := ih (t := { t with retMeas := measOf t p, status := st }) (i := 0) hcfg hrom
        (Nat.mod_lt (p + 1) (Nat.zero_lt_of_lt hp))
      exact ⟨m', st', hscan, hst.trans hst'⟩

theorem firstPlayable_eq (s : State) (pos idx : Nat) :
    firstPlayable s pos idx = findPlayable s (scanFrom s.cfg.k s.cfg.k pos idx) := rfl

/-- NORMALISE returns the first playable cursor (R142). -/
theorem normalise_eq {pos idx : BitVec 8} (hlegal : s.cfg.legal = true) (hpos : pos.toNat < s.cfg.k) :
    ∃ m st, s.normalise pos idx = { s with
        retFound := firstPlayable s pos.toNat idx.toNat, retMeas := m, status := st } ∧
      SeqStatus s.status st := by
  rw [State.normalise, Nat.mod_eq_of_lt hpos, firstPlayable_eq]
  exact scan_eq hlegal rfl rfl hpos

/-- Settles O31. -/
theorem normaliseFindsFirstPlayable : Obligations.NormaliseFindsFirstPlayable := by
  unfold Obligations.NormaliseFindsFirstPlayable
  intro s pos idx hlegal hpos hack
  obtain ⟨m, st, h, hst⟩ := normalise_eq (idx := idx) hlegal hpos
  exact ⟨_, (withRom_ack hack _ _).trans (congrArg Host.Outcome.next h), rfl, rfl, hst⟩

/-! ### NEXT (R144) -/

/-- The cursor at the first non-empty position of a list, `(0, 0)` where there is none. -/
def nextCursor (s : State) (qs : List Nat) : Cursor :=
  ((qs.find? fun q => 0 < cntOf s q).map fun q => cursorOf (q, 0)).getD ⟨0, 0⟩

theorem nextCursor_cons_pos {q : Nat} (h : 0 < cntOf s q) (qs : List Nat) :
    nextCursor s (q :: qs) = cursorOf (q, 0) := by
  simp only [nextCursor, List.find?_cons, h, decide_true, Option.map_some, Option.getD_some]

theorem nextCursor_cons_neg {q : Nat} (h : ¬0 < cntOf s q) (qs : List Nat) :
    nextCursor s (q :: qs) = nextCursor s qs := by
  simp only [nextCursor, List.find?_cons, h, decide_false]

/-- The positions from `q` on, `n` of them left. -/
theorem drop_range_succ {k n q : Nat} (h : q + (n + 1) = k) :
    (List.range k).drop q = q :: (List.range k).drop (q + 1) := by
  rw [List.drop_eq_getElem_cons (by rw [List.length_range]; omega), List.getElem_range]

/-- NEXT's scan, run at a state with the parameters and the ROM of `s`, finds the first non-empty position from `q`
on. -/
theorem nextScan_eq {t : State} {n q : Nat} (hlegal : s.cfg.legal = true) (hcfg : t.cfg = s.cfg)
    (hrom : t.rom = s.rom) (hq : q + n = s.cfg.k) :
    ∃ m st, State.nextScan n q t = { t with
        retNext := nextCursor s ((List.range s.cfg.k).drop q), retMeas := m, status := st } ∧
      SeqStatus t.status st := by
  induction n generalizing q t with
  | zero =>
    rw [List.drop_eq_nil_of_le (by rw [List.length_range]; omega)]
    exact ⟨_, _, rfl, .inl rfl⟩
  | succ n ih =>
    obtain ⟨hcnt, st, hmeas, hst⟩ := meas_result (s := t) (p := q) (by rwa [hcfg]) (by rw [hcfg]; omega)
    rw [cntOf_congr hcfg hrom] at hcnt
    rw [drop_range_succ hq, State.nextScan, hcnt]
    by_cases hplay : 0 < cntOf s q
    · rw [if_pos hplay, nextCursor_cons_pos hplay, hmeas]
      exact ⟨_, _, rfl, hst⟩
    · rw [if_neg hplay, nextCursor_cons_neg hplay, hmeas]
      obtain ⟨m', st', hscan, hst'⟩ := ih (t := { t with retMeas := measOf t q, status := st }) (q := q + 1) hcfg hrom
        (by omega)
      exact ⟨m', st', hscan, hst.trans hst'⟩

/-- R144's cursor: the next note of the position, else the first note after it. -/
theorem cursorAfter_eq (s : State) (p i : Nat) :
    cursorAfter s p i =
      if i + 1 < cntOf s p then cursorOf (p, i + 1) else nextCursor s ((List.range s.cfg.k).drop (p + 1)) := by
  unfold cursorAfter nextCursor
  split
  · rfl
  · rw [nextNonEmpty]
    cases ((List.range s.cfg.k).drop (p + 1)).find? fun q => decide (0 < cntOf s q) <;> rfl

/-- A note's index fits its register (R25, R26). -/
theorem cntOf_lt (s : State) (p : Nat) : cntOf s p < 256 := (measOf s p).cnt.isLt

theorem nextNote_eq {p i : BitVec 8} (hlegal : s.cfg.legal = true) (hp : p.toNat < s.cfg.k) :
    ∃ m st, s.nextNote p i = { s with
        retNext := cursorAfter s p.toNat i.toNat, retMeas := m, status := st } ∧
      SeqStatus s.status st := by
  obtain ⟨hcnt, st, hmeas, hst⟩ := meas_result hlegal hp
  rw [State.nextNote, hcnt, cursorAfter_eq]
  by_cases hplay : i.toNat + 1 < cntOf s p.toNat
  · have hcursor : (⟨p, i + 1⟩ : Cursor) = cursorOf (p.toNat, i.toNat + 1) := by
      simp [cursorOf, BitVec.ofNat_add]
    rw [if_pos hplay, if_pos hplay, hmeas, hcursor]
    exact ⟨_, _, rfl, hst⟩
  · rw [if_neg hplay, if_neg hplay, hmeas]
    obtain ⟨m', st', hscan, hst'⟩ := nextScan_eq (t := { s with retMeas := measOf s p.toNat, status := st })
      (n := s.cfg.k - (p.toNat + 1)) (q := p.toNat + 1) hlegal rfl rfl (by omega)
    exact ⟨m', st', hscan, hst.trans hst'⟩

/-- Settles O32. -/
theorem nextReturnsCursorAfter : Obligations.NextReturnsCursorAfter := by
  unfold Obligations.NextReturnsCursorAfter
  intro s p i hlegal hp hi hack
  obtain ⟨m, st, h, hst⟩ := nextNote_eq (i := i) hlegal hp
  exact ⟨_, (withRom_ack hack _ _).trans (congrArg Host.Outcome.next h), rfl, rfl, hst⟩

/-! ### The cursor keeps its range (R27) -/

theorem cursorOk_cursorOf (hlegal : s.cfg.legal = true) {p i : Nat} (hp : p < s.cfg.k) (hi : i < cntOf s p) :
    cursorOk s (cursorOf (p, i)) := by
  obtain ⟨-, hk, -⟩ := legal_counts hlegal
  have hi256 := cntOf_lt s p
  have hpos : (cursorOf (p, i)).pos.toNat = p := toNat_ofNat_of_lt (by omega)
  have hidx : (cursorOf (p, i)).idx.toNat = i := toNat_ofNat_of_lt (by omega)
  right
  rw [hpos, hidx]
  exact ⟨hp, hi⟩

theorem nextCursor_ok (hlegal : s.cfg.legal = true) {qs : List Nat} (hqs : ∀ q ∈ qs, q < s.cfg.k) :
    cursorOk s (nextCursor s qs) := by
  rw [nextCursor]
  cases hfind : qs.find? fun q => decide (0 < cntOf s q) with
  | none => exact .inl rfl
  | some q =>
    exact cursorOk_cursorOf hlegal (hqs q (List.mem_of_find?_eq_some hfind)) (by simpa using List.find?_some hfind)

/-- The cursor after a note is `(0, 0)` or playable (R144). -/
theorem cursorAfter_ok (hlegal : s.cfg.legal = true) {p i : Nat} (hp : p < s.cfg.k) :
    cursorOk s (cursorAfter s p i) := by
  rw [cursorAfter_eq]
  split
  next hi => exact cursorOk_cursorOf hlegal hp hi
  next => exact nextCursor_ok hlegal fun q hq => List.mem_range.1 (List.mem_of_mem_drop hq)

/-- An admitted sub-step leaves legal cursors: a cursor is stored from NEXT's result, or is `(0, 0)`. -/
theorem Effect.cursorsOk {t : Task} (h : Effect s t s') (hlegal : s.cfg.legal = true)
    (ht : taskAdmitted s.cfg t = true) (hcursors : cursorsOk s) : cursorsOk s' := by
  obtain ⟨hcursor, hnext⟩ := hcursors
  obtain ⟨hcfg, hrom⟩ := h.cfg_rom
  have keeps {c : Cursor} : cursorOk s c → cursorOk s' c := cursorOk_congr hcfg hrom
  cases h with
  | next p i =>
    obtain ⟨m, st, hnote, -⟩ := nextNote_eq (i := i) hlegal (of_decide_eq_true ht)
    have hresult : (s.nextNote p i).retNext = cursorAfter s p.toNat i.toNat := by rw [hnote]
    exact ⟨keeps hcursor, keeps (hresult ▸ cursorAfter_ok hlegal (of_decide_eq_true ht))⟩
  | storeCursor => exact ⟨keeps hnext, keeps hnext⟩
  | clearCursor | unmute => exact ⟨.inl rfl, keeps hnext⟩
  | _ => exact ⟨keeps hcursor, keeps hnext⟩

/-- The sub-step a step runs is admitted, a word standing for its row. -/
theorem ran_admitted (h : agendaOk s) : taskAdmitted s.cfg (ran s) = true := by
  rw [ran_eq_decodedTask]
  exact decodedTask_admitted (running_admitted h)

/-- Every step keeps the cursors legal. -/
theorem step_cursorsOk (hagenda : agendaOk s) (hcursors : cursorsOk s) (h : step s = .next s') : cursorsOk s' := by
  obtain ⟨-, rfl⟩ | ⟨-, heff⟩ := step_effect h
  · exact ⟨.inl rfl, .inl rfl⟩
  · exact heff.cursorsOk hagenda.1 (ran_admitted hagenda) hcursors

/-- Settles O52. -/
theorem cursorStaysPlayable : Obligations.CursorStaysPlayable := by
  unfold Obligations.CursorStaysPlayable
  exact fun s s' => step_cursorsOk

/-! ### The registers keep their ranges (R21 to R33) -/

/-- The registers other than the cursor and `STATUS` lie in their ranges (R21, R22, R23, R28, R31, R32). -/
structure InRange (s : State) : Prop where
  line : s.line.length = s.cfg.w
  row : s.row.toNat < s.cfg.rs
  x : s.x ≤ s.cfg.ws
  frameIdx : s.frameIdx.toNat < s.cfg.nf
  now : s.now < s.cfg.clkMod
  videoDl : s.videoDl < s.cfg.clkMod
  audioDl : s.audioDl < s.cfg.clkMod

/-- An admitted sub-step keeps the registers in range. -/
theorem Effect.inRange {t : Task} (h : Effect s t s') (hlegal : s.cfg.legal = true)
    (ht : taskAdmitted s.cfg t = true) (hin : InRange s) : InRange s' := by
  have hclock := sampleClock_now_lt s
  cases h with
  | run p l hline hx | expandRun hline hx => exact { hin with line := hline.trans hin.line, x := hx hin.x }
  | decodeRow hline hx => exact { hin with line := hline.trans hin.line, x := hx }
  | init => exact { hin with now := hclock, videoDl := hclock, audioDl := hclock }
  | mute | videoAhead | audioAhead | audioDue => exact { hin with now := hclock }
  | videoDue => exact { hin with now := hclock, frameIdx := nextFrame_lt hlegal s.frameIdx }
  | unmute => exact { hin with now := hclock, audioDl := hclock }
  | setRow r => exact { hin with row := of_decide_eq_true ht }
  | videoEnd => exact { hin with videoDl := timeAdd_lt _ _ _ }
  | audioEnd | muteEnd => exact { hin with audioDl := timeAdd_lt _ _ _ }
  | _ => exact { hin with }

theorem inRange_assertReset (hlegal : s.cfg.legal = true) : InRange s.assertReset := by
  obtain ⟨-, -, -, -, hnf, -⟩ := legal_counts hlegal
  exact
    { line := by simp [State.assertReset, State.resetWith]
      row := legal_rs_pos hlegal
      x := Nat.zero_le _
      frameIdx := hnf
      now := clkMod_pos s.cfg
      videoDl := clkMod_pos s.cfg
      audioDl := clkMod_pos s.cfg }

/-- A legal cursor lies below `K` (R25). -/
theorem pos_lt_of_cursorOk (hlegal : s.cfg.legal = true) {c : Cursor} (h : cursorOk s c) : c.pos.toNat < s.cfg.k := by
  obtain ⟨hk, -⟩ := legal_counts hlegal
  obtain rfl | ⟨hpos, -⟩ := h
  · exact hk
  · exact hpos

theorem registersOk_of_inRange (hlegal : s.cfg.legal = true) (hcursors : cursorsOk s) (hin : InRange s)
    (hbit7 : s.status.getLsbD 7 = false) (hrom : Memory.wf s.rom = true) : registersOk s :=
  ⟨hin.line, hin.row, hin.x, hin.frameIdx, pos_lt_of_cursorOk hlegal hcursors.1, hin.now, hin.videoDl, hin.audioDl,
    hbit7, hrom⟩

/-- Settles O51: the cursor by `step_cursorsOk`, `STATUS` by its effect, the other registers by `Effect.inRange`. -/
theorem registersKeepRanges : Obligations.RegistersKeepRanges := by
  unfold Obligations.RegistersKeepRanges
  intro s s' hagenda hcursors hregs h
  obtain ⟨hline, hrow, hx, hframe, -, hnow, hvideo, haudio, hbit7, hrom⟩ := hregs
  have hin : InRange s := ⟨hline, hrow, hx, hframe, hnow, hvideo, haudio⟩
  have hagenda' := step_agendaOk hagenda h
  have hcursors' := step_cursorsOk hagenda hcursors h
  obtain ⟨-, rfl⟩ | ⟨-, heff⟩ := step_effect h
  · exact registersOk_of_inRange hagenda'.1 hcursors' (inRange_assertReset hagenda.1) BitVec.getLsbD_zero hrom
  · have hpoised : InRange s.poised := { hin with }
    have hbit7' : s'.status.getLsbD 7 = s.status.getLsbD 7 := heff.status.1.2
    exact registersOk_of_inRange hagenda'.1 hcursors' (heff.inRange hagenda.1 (ran_admitted hagenda) hpoised)
      (hbit7'.trans hbit7) (by rw [heff.cfg_rom.2]; exact hrom)

end Sys2Proof.Machine
end

section
/-! ADVANCE's first sub-step (R143), and the song note by note (R149, law a): the cursor NEXT stores leads NORMALISE to
the note that follows in the song's order. -/

namespace Sys2Proof.Machine

open Sys2Proof.Safety

variable {s s' : State}

/-! ### ADVANCE (R143) -/

theorem romVal_congr (hrom : s'.rom = s.rom) (a n : Nat) : romVal s' a n = romVal s a n := by
  show romVal { s with rom := s'.rom } a n = romVal s a n
  rw [hrom]

theorem inRom_congr (hcfg : s'.cfg = s.cfg) (a n : Nat) : inRom s' a n = inRom s a n := by
  show inRom { s with cfg := s'.cfg } a n = inRom s a n
  rw [hcfg]

/-- The address of the note record at cursor `c` (R54, R143). -/
def recordAddr (s : State) (c : Cursor) : Nat := noteAddr (measOf s c.pos.toNat).addr c.idx.toNat

theorem recordAddr_congr (hcfg : s'.cfg = s.cfg) (hrom : s'.rom = s.rom) (c : Cursor) :
    recordAddr s' c = recordAddr s c := by
  rw [recordAddr, measOf_congr hcfg hrom, recordAddr]

/-- At a playable position MEAS is read, then the record, and the record is scheduled (R143). -/
theorem playNote_eq (hlegal : s.cfg.legal = true) {c : Cursor} (hc : c.pos.toNat < s.cfg.k) :
    ∃ m st, SeqStatus s.status st ∧
      ∀ v u, (State.memRead { s with retMeas := m, status := st } (recordAddr s c) 4).1 = v →
        (State.memRead { s with retMeas := m, status := st } (recordAddr s c) 4).2 = u →
        s.playNote c = { u with todo := playTasks (BitVec.ofNat 32 v) c ++ u.todo } := by
  obtain ⟨-, st, hmeas, hst⟩ := meas_result hlegal hc
  refine ⟨measOf s c.pos.toNat, st, hst, fun v u hv hu => ?_⟩
  rw [recordAddr] at hv hu
  simp only [State.playNote, hmeas, hv, hu, State.push]

/-- A record in the ROM is played as it stands (R143). -/
theorem playNote_inRom (hlegal : s.cfg.legal = true) {c : Cursor} (hc : c.pos.toNat < s.cfg.k)
    (hin : inRom s (recordAddr s c) 4 = true) :
    ∃ m st, s.playNote c = { s with
        retMeas := m, status := st, todo := playTasks (noteOf s c.pos.toNat c.idx.toNat) c ++ s.todo } ∧
      SeqStatus s.status st := by
  obtain ⟨m, st, hst, hplay⟩ := playNote_eq hlegal hc
  have hval : romVal { s with retMeas := m, status := st } (recordAddr s c) 4 = romVal s (recordAddr s c) 4 :=
    romVal_congr rfl _ _
  have hread := memRead_inRom (s := { s with retMeas := m, status := st }) (n := 4) hin
  rw [hval] at hread
  exact ⟨m, st, hplay _ _ (congrArg Prod.fst hread) (congrArg Prod.snd hread), hst⟩

/-- A record past the ROM is played with free bytes, and ROM_RANGE is flagged (R53, R143). -/
theorem playNote_pastRom (hlegal : s.cfg.legal = true) {c : Cursor} (hc : c.pos.toNat < s.cfg.k)
    (hin : inRom s (recordAddr s c) 4 = false) :
    ∃ m st d rec, s.playNote c = { s with
        retMeas := m, status := st, draws := d, todo := playTasks rec c ++ s.todo } ∧
      st.getLsbD (flagBit .romRange) = true := by
  obtain ⟨m, st, -, hplay⟩ := playNote_eq hlegal hc
  have hout : ¬inRom { s with retMeas := m, status := st } (recordAddr s c) 4 = true := Bool.eq_false_iff.1 hin
  have hstate := memRead_state { s with retMeas := m, status := st } (recordAddr s c) 4
  rw [if_neg hout] at hstate
  exact ⟨m, st ||| 0x40#8, _, _, hplay _ _ rfl hstate, by simp [flagBit]⟩

/-- ADVANCE, from what NORMALISE found (R143). -/
theorem advance_of_found {u : State} (h : s.normalise s.seqPos s.noteIdx = u) {c : Cursor}
    (hc : u.retFound = some c) : s.advance = u.playNote c := by
  unfold State.advance
  rw [h, hc]

theorem advance_of_none {u : State} (h : s.normalise s.seqPos s.noteIdx = u) (hc : u.retFound = none) :
    s.advance = u.songEmptyPause := by
  unfold State.advance
  rw [h, hc]

/-- What is found is a position of the sequence. -/
theorem firstPlayable_lt (hlegal : s.cfg.legal = true) {pos idx : BitVec 8} (hpos : pos.toNat < s.cfg.k) {c : Cursor}
    (hc : firstPlayable s pos.toNat idx.toNat = some c) : c.pos.toNat < s.cfg.k := by
  obtain ⟨m, st, h, -⟩ := normalise_eq (idx := idx) hlegal hpos
  exact normalise_found_lt hlegal (pos := pos) (idx := idx) (by rw [h]; exact hc)

/-- ADVANCE at a song whose first playable note lies in the ROM (R143). -/
theorem advance_inRom (hlegal : s.cfg.legal = true) (hpos : s.seqPos.toNat < s.cfg.k) {c : Cursor}
    (hc : firstPlayable s s.seqPos.toNat s.noteIdx.toNat = some c) (hin : inRom s (recordAddr s c) 4 = true) :
    ∃ m st, s.advance = { s with
        retFound := some c, retMeas := m, status := st,
        todo := playTasks (noteOf s c.pos.toNat c.idx.toNat) c ++ s.todo } ∧
      SeqStatus s.status st := by
  obtain ⟨m, st, hnorm, hst⟩ := normalise_eq (idx := s.noteIdx) hlegal hpos
  rw [hc] at hnorm
  have hclt := firstPlayable_lt hlegal hpos hc
  obtain ⟨m', st', hplay, hst'⟩ := playNote_inRom (s := { s with retFound := some c, retMeas := m, status := st })
    hlegal hclt hin
  exact ⟨m', st', (advance_of_found hnorm rfl).trans hplay, hst.trans hst'⟩

theorem advance_pastRom (hlegal : s.cfg.legal = true) (hpos : s.seqPos.toNat < s.cfg.k) {c : Cursor}
    (hc : firstPlayable s s.seqPos.toNat s.noteIdx.toNat = some c) (hin : inRom s (recordAddr s c) 4 = false) :
    ∃ m st d rec, s.advance = { s with
        retFound := some c, retMeas := m, status := st, draws := d, todo := playTasks rec c ++ s.todo } ∧
      st.getLsbD (flagBit .romRange) = true := by
  obtain ⟨m, st, hnorm, -⟩ := normalise_eq (idx := s.noteIdx) hlegal hpos
  rw [hc] at hnorm
  have hclt := firstPlayable_lt hlegal hpos hc
  obtain ⟨m', st', d, rec, hplay, hflag⟩ := playNote_pastRom
    (s := { s with retFound := some c, retMeas := m, status := st }) hlegal hclt hin
  exact ⟨m', st', d, rec, (advance_of_found hnorm rfl).trans hplay, hflag⟩

theorem advance_empty (hlegal : s.cfg.legal = true) (hpos : s.seqPos.toNat < s.cfg.k)
    (hc : firstPlayable s s.seqPos.toNat s.noteIdx.toNat = none) :
    ∃ m st, s.advance = { s with
        retFound := none, retMeas := m, status := st ||| flagMask .songEmpty,
        todo := voiceTasks 0 0 0 ++ [.clearCursor, .returnFallback] ++ s.todo } := by
  obtain ⟨m, st, hnorm, -⟩ := normalise_eq (idx := s.noteIdx) hlegal hpos
  rw [hc] at hnorm
  exact ⟨m, st, (advance_of_none hnorm rfl).trans rfl⟩

/-- Settles O34. -/
theorem advanceSchedulesNote : Obligations.AdvanceSchedulesNote := by
  unfold Obligations.AdvanceSchedulesNote
  intro s hlegal hpos hack
  have hexec : exec .advance s = .next s.advance := withRom_ack hack _ _
  cases hc : firstPlayable s s.seqPos.toNat s.noteIdx.toNat with
  | none =>
    obtain ⟨m, st, h⟩ := advance_empty hlegal hpos hc
    refine ⟨_, hexec.trans (congrArg _ h), rfl, ?_, rfl⟩
    exact flagged_flag { s with status := st } .songEmpty
  | some c =>
    cases hin : inRom s (recordAddr s c) 4 with
    | true =>
      obtain ⟨m, st, h, -⟩ := advance_inRom hlegal hpos hc hin
      refine ⟨_, hexec.trans (congrArg _ h), rfl, rfl, fun _ => ⟨rfl, rfl⟩, fun hout => ?_⟩
      cases hin.symm.trans hout
    | false =>
      obtain ⟨m, st, d, rec, h, hflag⟩ := advance_pastRom hlegal hpos hc hin
      refine ⟨_, hexec.trans (congrArg _ h), rfl, rfl, fun hout => ?_, fun _ => ⟨hflag, rec, rfl⟩⟩
      cases hin.symm.trans hout

/-! ### The song's order (R149) -/

/-- The notes of the positions `qs`, positions in order, notes ascending. -/
def notesOf (s : State) (qs : List Nat) : List (Nat × Nat) :=
  qs.flatMap fun p => (List.range (cntOf s p)).map fun i => (p, i)

theorem notesOf_cons (s : State) (q : Nat) (qs : List Nat) :
    notesOf s (q :: qs) = (List.range (cntOf s q)).map (fun i => (q, i)) ++ notesOf s qs := rfl

/-- The first note is the first of the first position that has one. -/
theorem notesOf_head (s : State) (qs : List Nat) :
    (notesOf s qs)[0]? = (qs.find? fun q => 0 < cntOf s q).map fun q => (q, 0) := by
  induction qs with
  | nil => rfl
  | cons q qs ih =>
    rw [notesOf_cons, List.find?_cons]
    cases hcnt : cntOf s q with
    | zero => exact ih
    | succ n => rw [List.range_succ_eq_map]; rfl

/-- In the positions from `a` on, the note after `(p, i)` is the next of its position, or the first of the positions
after it. -/
theorem notesOf_next {k a n p i : Nat} (hk : a ≤ k) (h : (notesOf s ((List.range k).drop a))[n]? = some (p, i)) :
    p < k ∧ i < cntOf s p ∧
      (notesOf s ((List.range k).drop a))[n + 1]? =
        if i + 1 < cntOf s p then some (p, i + 1) else (notesOf s ((List.range k).drop (p + 1)))[0]? := by
  obtain ⟨m, rfl⟩ := Nat.exists_eq_add_of_le hk
  induction m generalizing a n with
  | zero =>
    rw [Nat.add_zero, List.drop_eq_nil_of_le (by rw [List.length_range])] at h
    cases h
  | succ m ih =>
    rw [drop_range_succ rfl, notesOf_cons] at h ⊢
    by_cases hn : n < cntOf s a
    · rw [List.getElem?_append_left (by simpa using hn), List.getElem?_map, List.getElem?_range hn] at h
      cases h
      refine ⟨by omega, hn, ?_⟩
      by_cases hlast : i + 1 < cntOf s p
      · rw [if_pos hlast, List.getElem?_append_left (by simpa using hlast), List.getElem?_map,
          List.getElem?_range hlast]
        rfl
      · rw [if_neg hlast, List.getElem?_append_right (by simpa using hlast), List.length_map, List.length_range,
          show i + 1 - cntOf s p = 0 by omega]
    · rw [List.getElem?_append_right (by simpa using hn), List.length_map, List.length_range] at h
      rw [List.getElem?_append_right (by simp; omega), List.length_map, List.length_range,
        show n + 1 - cntOf s a = n - cntOf s a + 1 by omega]
      rw [show a + (m + 1) = a + 1 + m by omega] at h ⊢
      exact ih (by omega) h

theorem songOrder_eq (s : State) : songOrder s = notesOf s ((List.range s.cfg.k).drop 0) := rfl

/-- The song's note after `(p, i)` is the one NEXT's cursor names; after the last the cursor is `(0, 0)` (R144). -/
theorem songOrder_next {n p i : Nat} (h : (songOrder s)[n]? = some (p, i)) :
    p < s.cfg.k ∧ i < cntOf s p ∧
      cursorAfter s p i = match (songOrder s)[n + 1]? with
        | none => ⟨0, 0⟩
        | some c => cursorOf c := by
  rw [songOrder_eq] at h ⊢
  obtain ⟨hp, hi, hnext⟩ := notesOf_next (Nat.zero_le _) h
  refine ⟨hp, hi, ?_⟩
  rw [hnext, cursorAfter_eq]
  split
  · rfl
  · rw [notesOf_head, nextCursor]
    cases ((List.range s.cfg.k).drop (p + 1)).find? fun q => 0 < cntOf s q <;> rfl

/-- Every note of the song is playable. -/
theorem songOrder_playable {n p i : Nat} (h : (songOrder s)[n]? = some (p, i)) : p < s.cfg.k ∧ i < cntOf s p :=
  ⟨(songOrder_next h).1, (songOrder_next h).2.1⟩

/-- From a playable cursor the first playable cursor is that cursor. -/
theorem firstPlayable_self {p i : Nat} (hp : p < s.cfg.k) (hi : i < cntOf s p) :
    firstPlayable s p i = some (cursorOf (p, i)) := by
  obtain ⟨k, hk⟩ := Nat.exists_eq_succ_of_ne_zero (Nat.ne_zero_of_lt hp)
  rw [firstPlayable_eq]
  conv_lhs => rw [hk]
  rw [show k.succ = k + 1 from rfl, scanFrom_succ (by omega), findPlayable_cons_pos hi]

/-- From `(0, 0)` the first playable cursor is the song's first note. -/
theorem firstPlayable_start (s : State) : firstPlayable s 0 0 = (songOrder s)[0]?.map cursorOf := by
  rw [songOrder_eq, notesOf_head, List.drop_zero, firstPlayable_eq, findPlayable, scanFrom, List.find?_map]
  have horder : ((List.range s.cfg.k).find? fun j => decide (0 < cntOf s ((0 + j) % s.cfg.k))) =
      (List.range s.cfg.k).find? fun q => decide (0 < cntOf s q) := by
    apply List.find?_congr
    intro j hj
    rw [Nat.zero_add, Nat.mod_eq_of_lt (List.mem_range.1 hj)]
  simp only [Function.comp_def, ite_self] at horder ⊢
  rw [horder]
  cases hfind : (List.range s.cfg.k).find? fun q => decide (0 < cntOf s q) with
  | none => rfl
  | some q =>
    have hq := List.mem_range.1 (List.mem_of_find?_eq_some hfind)
    simp only [Option.map_some, Nat.zero_add, Nat.mod_eq_of_lt hq]

/-- NORMALISE from a cursor of the song finds it (R142). -/
theorem execNormalise_found (hlegal : s.cfg.legal = true) (hack : s.pins.romAck = true) {pos idx : BitVec 8}
    (hpos : pos.toNat < s.cfg.k) {c : Cursor} (hc : firstPlayable s pos.toNat idx.toNat = some c) :
    ∃ t, exec (.normalise pos idx) s = .next t ∧ t.retFound = some c := by
  obtain ⟨m, st, h, -⟩ := normalise_eq (idx := idx) hlegal hpos
  exact ⟨_, (withRom_ack hack _ _).trans (congrArg _ h), hc⟩

/-- The numbers of a note of the song fit the cursor's registers (R25, R26). -/
theorem toNat_cursorOf (hlegal : s.cfg.legal = true) {p i : Nat} (hp : p < s.cfg.k) (hi : i < cntOf s p) :
    (cursorOf (p, i)).pos.toNat = p ∧ (cursorOf (p, i)).idx.toNat = i := by
  obtain ⟨-, hk, -⟩ := legal_counts hlegal
  have hi256 := cntOf_lt s p
  exact ⟨toNat_ofNat_of_lt (by omega), toNat_ofNat_of_lt (by omega)⟩

/-- Settles O37: NEXT's cursor is the song's next note, and NORMALISE finds a note of the song where it stands. -/
theorem songPlaysInOrder : Obligations.SongPlaysInOrder := by
  unfold Obligations.SongPlaysInOrder
  intro s hlegal hack
  refine ⟨fun p i h => ?first, fun n p i h => ?next⟩
  case first =>
    obtain ⟨hk, -⟩ := legal_counts hlegal
    exact execNormalise_found hlegal hack (pos := 0) (idx := 0) hk ((firstPlayable_start s).trans (by rw [h]; rfl))
  case next =>
    obtain ⟨hp, hi, hcursor⟩ := songOrder_next h
    obtain ⟨hpos, hidx⟩ := toNat_cursorOf hlegal hp hi
    obtain ⟨m, st, hnote, -⟩ := nextNote_eq (p := BitVec.ofNat 8 p) (i := BitVec.ofNat 8 i) hlegal (by rwa [← hpos] at hp)
    refine ⟨_, (withRom_ack hack _ _).trans (congrArg _ hnote), ?_⟩
    have hret : cursorAfter s (BitVec.ofNat 8 p).toNat (BitVec.ofNat 8 i).toNat = cursorAfter s p i :=
      congrArg₂ (cursorAfter s) hpos hidx
    rw [hret, hcursor]
    cases hnext : (songOrder s)[n + 1]? with
    | none => rfl
    | some c =>
      obtain ⟨q, j⟩ := c
      obtain ⟨hq, hj⟩ := songOrder_playable hnext
      obtain ⟨hqpos, hqidx⟩ := toNat_cursorOf hlegal hq hj
      exact execNormalise_found hlegal hack (by rwa [hqpos]) (by rw [hqpos, hqidx]; exact firstPlayable_self hq hj)

end Sys2Proof.Machine
end

section
/-! The palette (R65, R83, R232), the deadline test (R170) and the frame cursor (R177). -/

namespace Sys2Proof.Machine

open Sys2Proof.Safety

variable {s : State}

/-! ### The palette -/

theorem palAt_eq_getElem (s : State) (p : BitVec 4) : s.palAt p = s.pal[p.toNat] := rfl

theorem palAt_palWord (s : State) (r g b : BitVec 8) (i : BitVec 4) :
    (s.palWord r g b).palAt i = if i = s.palIdx then colourOf r g b else s.palAt i := by
  rw [palAt_eq_getElem, palAt_eq_getElem]
  simp only [State.palWord_pal, Vector.getElem_set]
  by_cases h : i = s.palIdx
  · rw [if_pos h, if_pos (by rw [h])]
  · rw [if_neg h, if_neg fun hn => h (BitVec.eq_of_toNat_eq hn.symm)]

theorem channels_colourOf (r g b : BitVec 8) :
    (colourOf r g b).extractLsb' 16 8 = r ∧ (colourOf r g b).extractLsb' 8 8 = g ∧
      (colourOf r g b).extractLsb' 0 8 = b := by
  simp (disch := decide) only [colourOf, BitVec.extractLsb'_append_eq_of_le, BitVec.extractLsb'_append_eq_of_add_le,
    Nat.reduceSub, BitVec.extractLsb'_eq_self, and_self]

/-- Settles O41. -/
theorem paletteWordWritesEntry : Obligations.PaletteWordWritesEntry := by
  unfold Obligations.PaletteWordWritesEntry
  intro s r g b
  obtain ⟨hr, hg, hb⟩ := channels_colourOf r g b
  have hself : (s.palWord r g b).palAt s.palIdx = colourOf r g b := by rw [palAt_palWord, if_pos rfl]
  refine ⟨_, rfl, fun i hi => ?_, ?_⟩
  · rw [palAt_palWord, if_neg hi]
  · rw [hself]
    exact ⟨hr, hg, hb, rfl⟩

/-- The colour of a palette entry's word is its low 24 bits (R83). -/
theorem colourOf_channels (v : Nat) :
    colourOf ((BitVec.ofNat 32 v).extractLsb' 16 8) ((BitVec.ofNat 32 v).extractLsb' 8 8)
      ((BitVec.ofNat 32 v).extractLsb' 0 8) = BitVec.ofNat 24 v := by
  rw [colourOf, BitVec.extractLsb'_append_extractLsb'_eq_extractLsb' (by rfl),
    BitVec.extractLsb'_append_extractLsb'_eq_extractLsb' (by rfl)]
  apply BitVec.eq_of_toNat_eq
  rw [BitVec.extractLsb'_toNat, BitVec.toNat_ofNat, BitVec.toNat_ofNat, Nat.shiftRight_zero]
  omega

/-- Entry `i` of the palette table, as a colour. -/
def palEntry (s : State) (i : Nat) : Colour := BitVec.ofNat 24 (romVal s (palAddr s.cfg i) 4)

/-- One pass of INIT's palette loop under legal parameters. -/
theorem loadPalette_succ (hlegal : s.cfg.legal = true) (n : Nat) :
    ∃ pl, State.loadPalette (n + 1) s = State.loadPalette n { s with pal := pl, palIdx := s.palIdx + 1 } ∧
      ∀ i : BitVec 4, pl.get i.toFin = if i = s.palIdx then palEntry s s.palIdx.toNat else s.palAt i := by
  obtain ⟨v, hv⟩ : ∃ v, v = romVal s (palAddr s.cfg s.palIdx.toNat) 4 := ⟨_, rfl⟩
  have hread := memRead_pal hlegal s.palIdx.isLt
  rw [← hv] at hread
  refine ⟨(s.palWord ((BitVec.ofNat 32 v).extractLsb' 16 8) ((BitVec.ofNat 32 v).extractLsb' 8 8)
    ((BitVec.ofNat 32 v).extractLsb' 0 8)).pal, ?_, fun i => (palAt_palWord _ _ _ _ i).trans ?_⟩
  · rw [State.loadPalette, hread]
    rfl
  · rw [colourOf_channels, palEntry, hv]

/-- INIT's palette loop from entry `j` on: the entries before it stay, the others are loaded. -/
theorem loadPalette_eq {n j : Nat} (hlegal : s.cfg.legal = true) (hj : j + n = 16)
    (hidx : s.palIdx = BitVec.ofNat 4 j) :
    ∃ pl, State.loadPalette n s = { s with pal := pl, palIdx := 0 } ∧
      ∀ i : BitVec 4, pl.get i.toFin = if i.toNat < j then s.palAt i else palEntry s i.toNat := by
  induction n generalizing j s with
  | zero =>
    obtain rfl : j = 16 := hj
    exact ⟨s.pal, by rw [show (0 : BitVec 4) = s.palIdx from hidx.symm, State.loadPalette],
      fun i => (if_pos i.isLt).symm⟩
  | succ n ih =>
    obtain ⟨pu, hload, hpu⟩ := loadPalette_succ hlegal n
    obtain ⟨pl, hrest, hpl⟩ := ih (s := { s with pal := pu, palIdx := s.palIdx + 1 }) (j := j + 1) hlegal (by omega)
      (show s.palIdx + 1 = _ by rw [hidx, BitVec.ofNat_add]; rfl)
    refine ⟨pl, hload.trans hrest, fun i => ?_⟩
    have hjn : s.palIdx.toNat = j := by rw [hidx]; exact toNat_ofNat_of_lt (by omega)
    have hentry : palEntry { s with pal := pu, palIdx := s.palIdx + 1 } i.toNat = palEntry s i.toNat :=
      congrArg (BitVec.ofNat 24) (romVal_congr (s := s) (s' := { s with pal := pu, palIdx := s.palIdx + 1 }) rfl _ _)
    rw [hpl, hentry, show State.palAt { s with pal := pu, palIdx := s.palIdx + 1 } i = _ from hpu i, hjn]
    by_cases hi : i = s.palIdx
    · rw [if_pos hi, if_pos (by rw [hi]; omega), if_neg (by rw [hi]; omega), hi, hjn]
    · have hne : i.toNat ≠ j := fun h => hi (BitVec.eq_of_toNat_eq (h.trans hjn.symm))
      rw [if_neg hi]
      by_cases hlt : i.toNat < j
      · rw [if_pos hlt, if_pos (by omega)]
      · rw [if_neg hlt, if_neg (by omega)]

/-- Settles O39: the palette loop loads every entry, and then one sample is taken. -/
theorem initSetsDeadlines : Obligations.InitSetsDeadlines := by
  unfold Obligations.InitSetsDeadlines
  intro s hlegal hack hclock
  obtain ⟨pl, hload, hpl⟩ := loadPalette_eq (s := { s with palIdx := 0 }) (n := 16) (j := 0) hlegal rfl rfl
  have hexec : exec .init s = .next s.initialise :=
    (if_pos hlegal).trans ((if_pos hack).trans (withClock_kept hclock _))
  refine ⟨_, hexec, ?_⟩
  rw [State.initialise, hload]
  exact ⟨fun i => (hpl i).trans (if_neg (Nat.not_lt_zero _)), rfl⟩

/-! ### The deadline test (R170) -/

theorem mod_of_lt_two_mul {a m : Nat} (h : a < 2 * m) : a % m = if a < m then a else a - m := by
  split
  next hlt => exact Nat.mod_eq_of_lt hlt
  next hge => rw [Nat.mod_eq_sub_mod (Nat.not_lt.1 hge), Nat.mod_eq_of_lt (by omega)]

/-- The modular difference of two time values (R170). -/
theorem timeSub_eq {c : Params} {now dl : Nat} (hnow : now < c.clkMod) (hdl : dl < c.clkMod) :
    timeSub c now dl = if dl ≤ now then now - dl else now + c.clkMod - dl := by
  rw [timeSub, Nat.mod_eq_of_lt hdl, mod_of_lt_two_mul (by omega)]
  split <;> split <;> omega

/-- The modular difference is the one number below the modulus that leads from `dl` to `now`. -/
theorem eq_add_timeSub_iff {c : Params} {now dl d : Nat} (hnow : now < c.clkMod) (hdl : dl < c.clkMod)
    (hd : d < c.clkMod) : now = (dl + d) % c.clkMod ↔ timeSub c now dl = d := by
  rw [timeSub_eq hnow hdl, mod_of_lt_two_mul (by omega)]
  split <;> split <;> omega

/-- Settles O38: the deadline has passed when the difference lies below half the modulus. -/
theorem passedIsHalfRangeTest : Obligations.PassedIsHalfRangeTest := by
  unfold Obligations.PassedIsHalfRangeTest
  intro s now dl hw hnow hdl
  have hhalf : s.cfg.clkMod = 2 * 2 ^ (s.cfg.clkW - 1) := by
    rw [← Nat.pow_succ', Nat.succ_eq_add_one, Nat.sub_add_cancel hw]
    rfl
  have hdist := Nat.two_pow_pos (s.cfg.clkW - 1)
  refine ⟨_, rfl, rfl, ⟨fun h => ?_, fun ⟨d, hd, hnow'⟩ => ?_⟩, fun h => ?_⟩
  · exact ⟨_, of_decide_eq_true h, (eq_add_timeSub_iff hnow hdl (timeSub_lt _ _ _)).2 rfl⟩
  · exact decide_eq_true (((eq_add_timeSub_iff hnow hdl (by omega)).1 hnow').trans_lt hd)
  · have hsub := (eq_add_timeSub_iff (c := s.cfg) hnow hdl (by omega)).1 h
    exact decide_eq_false (by rw [hsub]; exact Nat.lt_irrefl _)

/-! ### The frame cursor (R21, R177) -/

/-- A due VIDEO_TICK that answers a next state has moved on to the next frame. -/
theorem execVideoTick_frame {s u : State} (h : exec .videoTick s = .next u)
    (hdue : passedTest s.cfg s.sampleClock.now s.videoDl = true) : u.frameIdx = nextFrame s.cfg s.frameIdx := by
  obtain ⟨-, rfl⟩ := withClock_next h
  rw [videoTick_passed hdue]

/-- Settles O50: after `n` due ticks the index is the first one plus `n`, modulo `NF`. -/
theorem frameCursorCycles : Obligations.FrameCursorCycles := by
  unfold Obligations.FrameCursorCycles
  intro t hlegal hfirst hticks
  have hindex : ∀ n, (t n).frameIdx.toNat = ((t 0).frameIdx.toNat + n) % (t 0).cfg.nf := by
    intro n
    induction n with
    | zero => exact (Nat.mod_eq_of_lt hfirst).symm
    | succ n ih =>
      obtain ⟨hcfg, hdue, u, hexec, hnext⟩ := hticks n
      rw [hnext, execVideoTick_frame hexec hdue, hcfg, toNat_nextFrame hlegal, ih, Nat.mod_add_mod, Nat.add_assoc]
  refine ⟨BitVec.eq_of_toNat_eq ?_, fun n hpos hlt heq => ?_⟩
  · rw [hindex, Nat.add_mod_right, Nat.mod_eq_of_lt hfirst]
  · have hsame := hindex n
    rw [heq, mod_of_lt_two_mul (by omega)] at hsame
    split at hsame <;> omega

end Sys2Proof.Machine
end

section
/-! The frame decoder's runs (R112 to R115, R120): what EXPAND_RUN writes, that DECODE_ROW stays inside the line on any
data, and that a well-formed row decodes to its runs' colours. -/

namespace Sys2Proof.Machine

open Sys2Proof.Safety

variable {s : State}

/-! ### EXPAND_RUN -/

/-- EXPAND_RUN writes the run's entries and no other (R113, R114). -/
theorem expandRun_expandsTo (s : State) : expandsTo s s.expandRun := by
  rw [expandRun_eq]
  refine ⟨rfl, fillLine_length _ _ _ _, fun j hj => ?_, ?_⟩
  · have hend : s.x * s.cfg.s + s.runFit * s.cfg.s = (s.x + s.runFit) * s.cfg.s := (Nat.add_mul _ _ _).symm
    rw [fillLine_getElem?, hend]
    simp only [hj, and_true]
  · simp only [decide_eq_true_eq]
    rfl

/-- Settles O21. -/
theorem runExpandsInsideLine : Obligations.RunExpandsInsideLine := by
  unfold Obligations.RunExpandsInsideLine
  exact fun s => ⟨⟨_, rfl, expandRun_expandsTo s⟩, fun p l =>
    ⟨_, rfl, expandRun_expandsTo { s with curP := p, curL := l }⟩⟩

/-- From the new `X` on EXPAND_RUN leaves the line alone. -/
theorem expandRun_line_beyond (s : State) {j : Nat} (hj : s.expandRun.x * s.cfg.s ≤ j) :
    s.expandRun.line[j]? = s.line[j]? := by
  rw [expandRun_eq] at hj ⊢
  have hend : s.x * s.cfg.s + s.runFit * s.cfg.s = (s.x + s.runFit) * s.cfg.s := (Nat.add_mul _ _ _).symm
  have hj' : (s.x + s.runFit) * s.cfg.s ≤ j := hj
  exact (fillLine_getElem? _ _ _ _ _).trans (if_neg (by omega))

/-! ### DECODE_ROW on any data -/

/-- One pass of the loop leaves the line from the new `X` on alone. -/
theorem runNext_line_beyond (s : State) {j : Nat} (hj : s.runNext.x * s.cfg.s ≤ j) :
    s.runNext.line[j]? = s.line[j]? := by
  obtain ⟨v, st, d, hread, -⟩ := memRead_pair 2 s.rp.toNat s
  unfold State.runNext State.runWord at hj ⊢
  rw [hread] at hj ⊢
  exact expandRun_line_beyond _ hj

/-- What DECODE_ROW's loop ends with: the line beyond `X` as it was, `REM` not grown and, when the passes were enough,
either the row full or every word read and FRAME_SHORT flagged (R112, R115). -/
theorem rowLoop_bounded (fuel : Nat) (s : State) :
    (∀ j, (State.rowLoop fuel s).x * s.cfg.s ≤ j → (State.rowLoop fuel s).line[j]? = s.line[j]?) ∧
      s.x ≤ (State.rowLoop fuel s).x ∧ (State.rowLoop fuel s).rem.toNat ≤ s.rem.toNat ∧
      (s.rem.toNat < fuel → (State.rowLoop fuel s).x < s.cfg.ws →
        (State.rowLoop fuel s).rem = 0 ∧ (State.rowLoop fuel s).flagged .frameShort = true) := by
  induction fuel generalizing s with
  | zero => exact ⟨fun _ _ => rfl, Nat.le_refl _, Nat.le_refl _, fun h => absurd h (Nat.not_lt_zero _)⟩
  | succ fuel ih =>
    unfold State.rowLoop
    split
    next hx =>
      split
      next hrem =>
        exact ⟨fun _ _ => rfl, Nat.le_refl _, Nat.le_refl _, fun _ _ => ⟨hrem, flagged_flag s .frameShort⟩⟩
      next hrem =>
        obtain ⟨hline, hxle, hremle, hend⟩ := ih s.runNext
        obtain ⟨l, x, st, d, p, n, hnext, -, hxnext, -, -⟩ := runNext_effect s
        have hcfg : s.runNext.cfg = s.cfg := by rw [hnext]
        have hx' : s.x ≤ s.runNext.x := by rw [hnext]; exact hxnext
        have hrem' : s.runNext.rem.toNat + 1 = s.rem.toNat := by
          rw [hnext]
          show (s.rem - 1).toNat + 1 = s.rem.toNat
          bv_omega
        rw [hcfg] at hline hend
        refine ⟨fun j hj => ?_, hx'.trans hxle, by omega, fun hfuel => hend (by omega)⟩
        rw [hline j hj]
        exact runNext_line_beyond s ((Nat.mul_le_mul_right _ hxle).trans hj)
    next hx => exact ⟨fun _ _ => rfl, Nat.le_refl _, Nat.le_refl _, fun _ h => absurd h hx⟩

/-- With the ROM answering DECODE_ROW completes. -/
theorem execDecodeRow_ack (hack : s.pins.romAck = true) : exec .decodeRow s = .next s.decodeRow := by
  show execDecodeRow s = _
  rw [execDecodeRow, withRom_ack hack, ite_self]

/-- Settles O22. -/
theorem decodeRowBounded : Obligations.DecodeRowBounded := by
  unfold Obligations.DecodeRowBounded
  intro s hack
  obtain ⟨hline, -, hrem, hend⟩ := rowLoop_bounded (s.rem.toNat + 1) { s with x := 0 }
  obtain ⟨l, x, st, d, p, n, rp, rem, hrow, hlen, hx, -⟩ := decodeRow_effect s
  refine ⟨s.decodeRow, execDecodeRow_ack hack, ?_, ?_, hrem, hline, hend (Nat.lt_succ_self _), ?_⟩
  · rw [hrow]
    exact hlen
  · rw [hrow]
    exact hx
  · rw [hrow]

/-! ### A well-formed row -/

theorem add_mod_congr {a b m : Nat} (h : a % m = b % m) (k : Nat) : (a + k) % m = (b + k) % m := by
  rw [Nat.add_mod, h, ← Nat.add_mod]

/-- A ROM value depends on its address modulo `2^32` (R52). -/
theorem romVal_mod {a b : Nat} (h : a % 2 ^ 32 = b % 2 ^ 32) (s : State) (n : Nat) : romVal s a n = romVal s b n := by
  unfold romVal
  simp only [add_mod_congr h]

theorem inRom_mod {a b : Nat} (h : a % 2 ^ 32 = b % 2 ^ 32) (s : State) (n : Nat) : inRom s a n = inRom s b n := by
  unfold inRom
  simp only [add_mod_congr h]

theorem wordsAt_congr {s s' : State} (hcfg : s'.cfg = s.cfg) (hrom : s'.rom = s.rom)
    (runs : List (BitVec 4 × BitVec 12)) (a : Nat) : wordsAt s' a runs = wordsAt s a runs := by
  induction runs generalizing a with
  | nil => rfl
  | cons r rest ih =>
    obtain ⟨p, l⟩ := r
    rw [wordsAt, wordsAt, inRom_congr hcfg, romVal_congr hrom, ih]

/-- The words of a row, one at a time. -/
theorem wordsAt_cons {a : Nat} {p : BitVec 4} {l : BitVec 12} {rest : List (BitVec 4 × BitVec 12)}
    (h : wordsAt s a ((p, l) :: rest) = true) :
    inRom s a 2 = true ∧ romVal s a 2 = (p ++ l).toNat ∧ wordsAt s (a + 2) rest = true := by
  rw [wordsAt, Bool.and_eq_true, Bool.and_eq_true, beq_iff_eq] at h
  obtain ⟨⟨hin, hval⟩, hrest⟩ := h
  exact ⟨hin, hval, hrest⟩

theorem runSum_cons (r : BitVec 4 × BitVec 12) (rest : List (BitVec 4 × BitVec 12)) :
    runSum (r :: rest) = r.2.toNat + runSum rest := by
  rw [runSum, List.map_cons, List.sum_cons, runSum]

theorem lineOf_cons (s : State) (p : BitVec 4) (l : BitVec 12) (rest : List (BitVec 4 × BitVec 12)) :
    lineOf s ((p, l) :: rest) = List.replicate (l.toNat * s.cfg.s) (s.palAt p) ++ lineOf s rest :=
  List.flatMap_cons

/-- The last run, where there is one, has a pixel (R120). -/
def EndsPositive (runs : List (BitVec 4 × BitVec 12)) : Prop := ∀ r ∈ runs.getLast?, 0 < r.2.toNat

theorem EndsPositive.tail {r : BitVec 4 × BitVec 12} {rest : List (BitVec 4 × BitVec 12)}
    (h : EndsPositive (r :: rest)) : EndsPositive rest := by
  cases rest with
  | nil => exact fun _ hr => nomatch hr
  | cons r' rest => exact h

/-- A row that ends with a pixel has one. -/
theorem EndsPositive.runSum_pos {r : BitVec 4 × BitVec 12} {rest : List (BitVec 4 × BitVec 12)}
    (h : EndsPositive (r :: rest)) : 0 < runSum (r :: rest) := by
  induction rest generalizing r with
  | nil => exact h r rfl
  | cons r' rest ih =>
    rw [runSum_cons]
    exact Nat.add_pos_right _ (ih h.tail)

theorem endsPositive_of_wellFormed {c : Params} {runs : List (BitVec 4 × BitVec 12)}
    (h : rowWellFormed c runs = true) : runSum runs = c.ws ∧ EndsPositive runs := by
  rw [rowWellFormed, Bool.and_eq_true, beq_iff_eq] at h
  obtain ⟨hsum, hlast⟩ := h
  refine ⟨hsum, fun r hr => ?_⟩
  rw [Option.mem_def.1 hr] at hlast
  exact of_decide_eq_true hlast

/-- The line up to the end of a fill: what stood before it, and the colour. -/
theorem fillLine_take (line : List Colour) (a n : Nat) (v : Colour) (h : a + n ≤ line.length) :
    (fillLine line a n v).take (a + n) = line.take a ++ List.replicate n v := by
  induction line, a, n, v using fillLine.induct with
  | case1 a n v =>
    obtain ⟨rfl, rfl⟩ : a = 0 ∧ n = 0 := by
      rw [List.length_nil] at h
      omega
    rfl
  | case2 c cs skip n v ih =>
    rw [List.length_cons] at h
    rw [fillLine, Nat.succ_add, List.take_succ_cons, ih (by omega), List.take_succ_cons, List.cons_append]
  | case3 c cs n v ih =>
    rw [List.length_cons] at h
    have hrest := ih (by omega)
    rw [Nat.zero_add, List.take_zero, List.nil_append] at hrest
    rw [fillLine, Nat.zero_add, List.take_succ_cons, hrest, List.take_zero, List.nil_append, List.replicate_succ]
  | case4 c cs v => rfl

theorem runFields (p : BitVec 4) (l : BitVec 12) :
    (BitVec.ofNat 16 (p ++ l).toNat).extractLsb' 12 4 = p ∧ (BitVec.ofNat 16 (p ++ l).toNat).extractLsb' 0 12 = l := by
  rw [BitVec.ofNat_toNat, BitVec.setWidth_eq]
  simp (disch := decide) only [BitVec.extractLsb'_append_eq_of_le, BitVec.extractLsb'_append_eq_of_add_le,
    Nat.sub_self, BitVec.extractLsb'_eq_self, and_self]

/-- A run that fits is written whole, and no flag is set (R113). -/
theorem runWord_fits (s : State) (p : BitVec 4) (l : BitVec 12) (h : s.x + l.toNat ≤ s.cfg.ws) :
    s.runWord p l = { s with
      curP := p, curL := l, x := s.x + l.toNat
      line := fillLine s.line (s.x * s.cfg.s) (l.toNat * s.cfg.s) (s.palAt p) } := by
  have hfits : ¬ s.cfg.ws - s.x < l.toNat := by omega
  have hfit : State.runFit { s with curP := p, curL := l } = l.toNat := by
    show min l.toNat (s.cfg.ws - s.x) = l.toNat
    omega
  simp only [State.runWord, expandRun_eq, hfit, State.avail, decide_eq_true_eq, hfits, if_false]
  rfl

/-- One pass of the loop at a word that is in the ROM and fits. -/
theorem runNext_fits {a : Nat} {p : BitVec 4} {l : BitVec 12} (ha : s.rp.toNat % 2 ^ 32 = a % 2 ^ 32)
    (hin : inRom s a 2 = true) (hval : romVal s a 2 = (p ++ l).toNat) (hfit : s.x + l.toNat ≤ s.cfg.ws) :
    s.runNext = { s with
      rp := s.rp + 2, rem := s.rem - 1, curP := p, curL := l, x := s.x + l.toNat
      line := fillLine s.line (s.x * s.cfg.s) (l.toNat * s.cfg.s) (s.palAt p) } := by
  obtain ⟨hp, hl⟩ := runFields p l
  have hread : s.memRead s.rp.toNat 2 = ((p ++ l).toNat, s) := by
    rw [memRead_inRom ((inRom_mod ha s 2).trans hin), romVal_mod ha, hval]
  simp only [State.runNext, hread, hp, hl]
  exact runWord_fits _ p l hfit

/-- DECODE_ROW at the end of a full row. -/
def State.rowDone (s : State) (line : List Colour) (rp rem : BitVec 32) (p : BitVec 4) (l : BitVec 12) : State :=
  { s with line := line, x := s.cfg.ws, rp := rp, rem := rem, curP := p, curL := l }

/-- DECODE_ROW's loop on the rest of a well-formed row: the runs' colours from `X` on, their words consumed, no flag
(R120). -/
theorem rowLoop_wellFormed {runs : List (BitVec 4 × BitVec 12)} {a fuel : Nat} (hw : s.cfg.ws * s.cfg.s = s.line.length)
    (ha : s.rp.toNat % 2 ^ 32 = a % 2 ^ 32) (hwords : wordsAt s a runs = true) (hsum : s.x + runSum runs = s.cfg.ws)
    (hlast : EndsPositive runs) (hrem : runs.length ≤ s.rem.toNat) (hfuel : runs.length < fuel) :
    ∃ p l, State.rowLoop fuel s = s.rowDone (s.line.take (s.x * s.cfg.s) ++ lineOf s runs)
      (s.rp + BitVec.ofNat 32 (2 * runs.length)) (s.rem - BitVec.ofNat 32 runs.length) p l := by
  induction runs generalizing s a fuel with
  | nil =>
    obtain ⟨fuel, rfl⟩ := Nat.exists_eq_succ_of_ne_zero (Nat.ne_of_gt (Nat.zero_lt_of_lt hfuel))
    have hx : s.x = s.cfg.ws := hsum
    have hline : s.line.take (s.x * s.cfg.s) ++ lineOf s [] = s.line := by
      rw [hx, hw, List.take_length]
      exact List.append_nil _
    have hrp : s.rp + BitVec.ofNat 32 (2 * List.length (α := BitVec 4 × BitVec 12) []) = s.rp := BitVec.add_zero _
    have hrem : s.rem - BitVec.ofNat 32 (List.length (α := BitVec 4 × BitVec 12) []) = s.rem := BitVec.sub_zero _
    refine ⟨s.curP, s.curL, ?_⟩
    rw [State.rowLoop, if_neg (by omega), hline, hrp, hrem, State.rowDone, ← hx]
  | cons r rest ih =>
    obtain ⟨p, l⟩ := r
    obtain ⟨fuel, rfl⟩ := Nat.exists_eq_succ_of_ne_zero (Nat.ne_of_gt (Nat.zero_lt_of_lt hfuel))
    obtain ⟨hin, hval, hrest⟩ := wordsAt_cons hwords
    have hpos : 0 < l.toNat + runSum rest := (runSum_cons (p, l) rest) ▸ hlast.runSum_pos
    have hsum' : s.x + (l.toNat + runSum rest) = s.cfg.ws := (runSum_cons (p, l) rest) ▸ hsum
    rw [List.length_cons] at hrem hfuel
    have hrem0 : s.rem ≠ 0 := fun h => Nat.not_succ_le_zero _ (h ▸ hrem)
    have hfill : (s.x + l.toNat) * s.cfg.s ≤ s.line.length := hw ▸ Nat.mul_le_mul_right _ (by omega)
    have hnext := runNext_fits ha hin hval (by omega)
    have hx' : s.runNext.x = s.x + l.toNat := by rw [hnext]
    have hcfg' : s.runNext.cfg = s.cfg := by rw [hnext]
    have hrom' : s.runNext.rom = s.rom := by rw [hnext]
    have hrp' : s.runNext.rp = s.rp + 2 := by rw [hnext]
    have hrem' : s.runNext.rem = s.rem - 1 := by rw [hnext]
    have hline' : s.runNext.line = fillLine s.line (s.x * s.cfg.s) (l.toNat * s.cfg.s) (s.palAt p) := by rw [hnext]
    have hcolours : lineOf s.runNext rest = lineOf s rest := by rw [hnext]; rfl
    have hdone : ∀ line rp rem p l, s.runNext.rowDone line rp rem p l = s.rowDone line rp rem p l := by
      rw [hnext]
      exact fun _ _ _ _ _ => rfl
    obtain ⟨q, m, hloop⟩ := ih (s := s.runNext) (a := a + 2) (fuel := fuel)
      (by rw [hcfg', hline', fillLine_length, hw])
      (by rw [hrp', BitVec.toNat_add, Nat.mod_mod]; exact add_mod_congr ha 2)
      (by rw [wordsAt_congr hcfg' hrom', hrest])
      (by rw [hx', hcfg']; omega) hlast.tail (by rw [hrem']; bv_omega) (by omega)
    refine ⟨q, m, ?_⟩
    rw [State.rowLoop, if_pos (by omega), if_neg hrem0, hloop, hdone, hcolours, hline', hx', hcfg', hrp', hrem',
      Nat.add_mul, fillLine_take _ _ _ _ (Nat.add_mul _ _ _ ▸ hfill), lineOf_cons, List.append_assoc, List.length_cons]
    congr 1
    · bv_omega
    · bv_omega

/-- Settles O23. -/
theorem wellFormedRowDecodes : Obligations.WellFormedRowDecodes := by
  unfold Obligations.WellFormedRowDecodes
  intro s runs hlegal hlen hack hwf hwords hrem
  obtain ⟨-, -, -, -, -, hws, -⟩ := legal_geometry hlegal
  obtain ⟨hsum, hlast⟩ := endsPositive_of_wellFormed hwf
  obtain ⟨p, l, hloop⟩ := rowLoop_wellFormed (s := { s with x := 0 }) (a := s.rp.toNat) (fuel := s.rem.toNat + 1)
    (hws.trans hlen.symm) rfl ((wordsAt_congr (s := s) (s' := { s with x := 0 }) rfl rfl runs _).trans hwords)
    ((Nat.zero_add _).trans hsum) hlast hrem (Nat.lt_succ_of_le hrem)
  refine ⟨_, execDecodeRow_ack hack, ?_⟩
  rw [State.decodeRow, hloop, Nat.zero_mul, List.take_zero, List.nil_append]
  rfl

end Sys2Proof.Machine
end

section
/-! Runs of several steps with accepting ports: the silences, MUTE and ADVANCE run to their ends, and a quiet iteration
(R143, R147, R148, R172, R174). -/

namespace Sys2Proof.Machine

open Sys2Proof.Safety

variable {s t u : State} {rest : List Task}

/-! ### Runs -/

/-- A run of `n` steps from `s` ends in `t`. -/
def RunsTo (n : Nat) (s t : State) : Prop := Host.Core.run Sys2Proof.core n s = .next t

theorem RunsTo.refl (s : State) : RunsTo 0 s s := rfl

theorem run_succ_of_step {M : Host.Core} {s u : M.State} (h : M.step s = .next u) (n : Nat) :
    M.run (n + 1) s = M.run n u := by
  rw [Host.Core.run, h]

/-- A run of more than no step begins with a step that answers a next state. -/
theorem step_of_run_succ {M : Host.Core} {s t : M.State} {n : Nat} (h : M.run (n + 1) s = .next t) :
    ∃ u, M.step s = .next u ∧ M.run n u = .next t := by
  rw [Host.Core.run] at h
  split at h
  next u hu => exact ⟨u, hu, h⟩
  next => cases h
  next => cases h

theorem RunsTo.cons {n : Nat} (h : step s = .next u) (k : RunsTo n u t) : RunsTo (n + 1) s t :=
  (run_succ_of_step (M := Sys2Proof.core) h n).trans k

theorem RunsTo.trans {m n : Nat} (h : RunsTo m s u) (k : RunsTo n u t) : RunsTo (m + n) s t := by
  induction m generalizing s with
  | zero =>
    cases h
    rwa [Nat.zero_add]
  | succ m ih =>
    obtain ⟨v, hv, hrest⟩ := step_of_run_succ h
    rw [Nat.succ_add]
    exact .cons hv (ih hrest)

/-! ### Accepting pins -/

/-- What accepting pins are. -/
theorem accepting_iff {p : Pins} :
    accepting p = true ↔ p.rst = false ∧ p.dispReady = true ∧ p.sndReady = true ∧ p.romAck = true := by
  simp only [accepting, Bool.and_eq_true, Bool.not_eq_true', and_assoc]

theorem rst_of_accepting {p : Pins} (h : accepting p = true) : p.rst = false := (accepting_iff.1 h).1

/-- `s` at its coming step, with the pins `p` taken, `ps` left of the schedule and `rest` left of the agenda. -/
def State.taken (s : State) (p : Pins) (ps : List Pins) (rest : List Task) : State :=
  { s with pins := p, stimulus := ps, tick := s.tick + 1, rearm := false, romReq := false, todo := rest }

theorem poised_eq_taken {p : Pins} {ps : List Pins} (h : s.stimulus = p :: ps) :
    { s.begin with todo := rest } = s.taken p ps rest := by
  unfold State.begin State.nextPins State.taken
  rw [h]
  rfl

theorem nextPins_scheduled {p : Pins} {ps : List Pins} (h : s.stimulus = p :: ps) : s.nextPins = p := by
  rw [State.nextPins, h]

/-- A step with scheduled pins and no reset runs the first sub-step. -/
theorem step_scheduled {p : Pins} {ps : List Pins} {k : Task} (h : s.stimulus = p :: ps) (hrst : p.rst = false)
    (htodo : s.todo = k :: rest) : step s = runTask k (s.taken p ps rest) := by
  rw [step_runs ((congrArg Pins.rst (nextPins_scheduled h)).trans hrst) htodo, poised_eq_taken h]

/-- The schedule's first pins of an accepting run. -/
theorem accepts_uncons {n : Nat} (h : accepts s (n + 1) = true) :
    ∃ p ps, s.stimulus = p :: ps ∧ accepting p = true ∧ accepts { s with stimulus := ps } n = true := by
  unfold accepts at h ⊢
  cases hst : s.stimulus with
  | nil => simp [hst] at h
  | cons p ps =>
    simp only [hst, List.length_cons, List.take_succ_cons, List.all_cons, Bool.and_eq_true, decide_eq_true_eq,
      Nat.add_le_add_iff_right] at h
    obtain ⟨hlen, hp, hps⟩ := h
    exact ⟨p, ps, rfl, hp, by simp [hlen, hps]⟩

/-! ### The voice writes and the silences (R146 to R148) -/

/-- `s` after an accepted sound write. -/
def State.sounded (s : State) (v : BitVec 2) (f : BitVec 8) : State :=
  { s with sndValid := false, sndVoice := v, sndFreq := f, trace := s.trace ++ [.snd v f] }

/-- An accepted sound write is one step (R39, R93). -/
theorem step_sndSet {p : Pins} {ps : List Pins} {v : BitVec 2} {f : BitVec 8} (hv : v ≠ 3) (h : s.stimulus = p :: ps)
    (hp : accepting p = true) (htodo : s.todo = .op (.sndSet v f) :: rest) :
    step s = .next ((s.taken p ps rest).sounded v f) := by
  obtain ⟨hrst, -, hsnd, -⟩ := accepting_iff.1 hp
  exact (step_scheduled h hrst htodo).trans ((execSndSet_offers hv f _).trans
    (congrArg Host.Outcome.next (offerSnd_ready (s := s.taken p ps rest) hsnd _ _ _)))

/-- `s` after the three voice writes of one operation. -/
def State.voiced (s : State) (f0 f1 f2 : BitVec 8) (p : Pins) (ps : List Pins) (rest : List Task) : State :=
  { s with
    pins := p, stimulus := ps, tick := s.tick + 3, rearm := false, romReq := false, todo := rest, sndValid := false
    sndVoice := 2, sndFreq := f2, trace := s.trace ++ [.snd 0 f0, .snd 1 f1, .snd 2 f2] }

theorem voice0 : (0 : BitVec 2) ≠ 3 := by decide
theorem voice1 : (1 : BitVec 2) ≠ 3 := by decide
theorem voice2 : (2 : BitVec 2) ≠ 3 := by decide

/-- The three voice writes of one operation, accepted (R146). -/
theorem runs_voices {f0 f1 f2 : BitVec 8} {n : Nat} (hacc : accepts s (n + 3) = true)
    (htodo : s.todo = voiceTasks f0 f1 f2 ++ rest) :
    ∃ p ps, RunsTo 3 s (s.voiced f0 f1 f2 p ps rest) ∧ accepts { s with stimulus := ps } n = true := by
  obtain ⟨p0, ps0, hst, h0, hacc⟩ := accepts_uncons hacc
  obtain ⟨p1, ps1, rfl, h1, hacc⟩ := accepts_uncons hacc
  obtain ⟨p2, ps2, rfl, h2, hacc⟩ := accepts_uncons hacc
  have hfirst := step_sndSet (rest := .op (.sndSet 1 f1) :: .op (.sndSet 2 f2) :: rest) voice0 hst h0 htodo
  have hsecond := step_sndSet
    (s := (s.taken p0 (p1 :: p2 :: ps2) (.op (.sndSet 1 f1) :: .op (.sndSet 2 f2) :: rest)).sounded 0 f0)
    (rest := .op (.sndSet 2 f2) :: rest) voice1 rfl h1 rfl
  have hthird := step_sndSet
    (s := (((s.taken p0 (p1 :: p2 :: ps2) (.op (.sndSet 1 f1) :: .op (.sndSet 2 f2) :: rest)).sounded 0 f0).taken
      p1 (p2 :: ps2) (.op (.sndSet 2 f2) :: rest)).sounded 1 f1)
    voice2 rfl h2 rfl
  have hrun := RunsTo.cons hfirst (.cons hsecond (.cons hthird (.refl _)))
  refine ⟨p2, ps2, ?_, hacc⟩
  simpa only [State.voiced, State.sounded, State.taken, List.append_assoc, List.cons_append, List.nil_append] using hrun

/-- Settles O36. -/
theorem silencesReturnFallback : Obligations.SilencesReturnFallback := by
  unfold Obligations.SilencesReturnFallback
  refine fun s rest => ⟨rfl, rfl, fun htodo hacc => ?fallback, fun htodo hacc => ?pause⟩
  case fallback =>
    obtain ⟨p0, ps0, hst, h0, hacc⟩ := accepts_uncons hacc
    have hfirst : step s = .next (s.taken p0 ps0 rest).mutedFallback :=
      step_scheduled hst (rst_of_accepting h0) htodo
    obtain ⟨p, ps, hvoices, hacc⟩ := runs_voices (s := (s.taken p0 ps0 rest).mutedFallback) (n := 1) hacc rfl
    obtain ⟨p4, ps4, rfl, h4, -⟩ := accepts_uncons hacc
    have hrun := RunsTo.cons hfirst (hvoices.trans
      (.cons (step_scheduled (k := .returnFallback) rfl (rst_of_accepting h4) rfl) (.refl _)))
    simp only [State.taken, State.voiced, State.mutedFallback, State.push] at hrun
    exact ⟨_, hrun, rfl, rfl, rfl, rfl, rfl, rfl, rfl, rfl⟩
  case pause =>
    obtain ⟨p0, ps0, hst, h0, hacc⟩ := accepts_uncons hacc
    have hfirst : step s = .next (s.taken p0 ps0 rest).songEmptyPause :=
      step_scheduled hst (rst_of_accepting h0) htodo
    obtain ⟨p, ps, hvoices, hacc⟩ := runs_voices (s := (s.taken p0 ps0 rest).songEmptyPause) (n := 2) hacc rfl
    obtain ⟨p4, ps4, rfl, h4, hacc⟩ := accepts_uncons hacc
    obtain ⟨p5, ps5, rfl, h5, -⟩ := accepts_uncons hacc
    have hrun := RunsTo.cons hfirst (hvoices.trans
      (.cons (step_scheduled (k := .clearCursor) rfl (rst_of_accepting h4) rfl)
        (.cons (step_scheduled (k := .returnFallback) rfl (rst_of_accepting h5) rfl) (.refl _))))
    simp only [State.taken, State.voiced, State.setCursor, State.songEmptyPause, State.flag, State.push] at hrun
    exact ⟨_, hrun, rfl, rfl, rfl, rfl, rfl, rfl, rfl, rfl⟩

/-! ### MUTE (R174) -/

/-- Settles O45. -/
theorem muteSilencesOnce : Obligations.MuteSilencesOnce := by
  unfold Obligations.MuteSilencesOnce
  refine fun s rest => ⟨execMute_muted, execMute_playing, fun hm htodo hacc hclock => ?_⟩
  obtain ⟨p0, ps0, hst, h0, hacc⟩ := accepts_uncons hacc
  have hpins : s.nextPins = p0 := nextPins_scheduled hst
  have hkept : (s.taken p0 ps0 rest).clockKept = true := by
    rw [← poised_eq_taken hst]
    exact hclock
  have hfirst := (step_scheduled hst (rst_of_accepting h0) htodo).trans (execMute_playing hm hkept)
  obtain ⟨p, ps, hvoices, hacc⟩ := runs_voices (n := 2) hacc (s := { (s.taken p0 ps0 rest).sampleClock.push
    (voiceTasks 0 0 0 ++ [.clearCursor, .muteEnd]) with muted := true }) rfl
  obtain ⟨p4, ps4, rfl, h4, hacc⟩ := accepts_uncons hacc
  obtain ⟨p5, ps5, rfl, h5, -⟩ := accepts_uncons hacc
  have hrun := RunsTo.cons hfirst (hvoices.trans
    (.cons (step_scheduled (k := .clearCursor) rfl (rst_of_accepting h4) rfl)
      (.cons (step_scheduled (k := .muteEnd) rfl (rst_of_accepting h5) rfl) (.refl _))))
  simp only [State.taken, State.voiced, State.setCursor, State.sampleClock, State.push, State.muteEnd, List.append_assoc,
    List.cons_append, List.nil_append] at hrun
  rw [hpins]
  exact ⟨_, hrun, rfl, rfl⟩

/-! ### ADVANCE run to its end (R143) -/

section
variable {s' : State} (hcfg : s'.cfg = s.cfg) (hrom : s'.rom = s.rom)
include hcfg hrom

theorem firstPlayable_congr (p i : Nat) : firstPlayable s' p i = firstPlayable s p i := by
  show firstPlayable { s with cfg := s'.cfg, rom := s'.rom } p i = firstPlayable s p i
  rw [hcfg, hrom]

theorem noteOf_congr (p i : Nat) : noteOf s' p i = noteOf s p i := by
  show noteOf { s with cfg := s'.cfg, rom := s'.rom } p i = noteOf s p i
  rw [hcfg, hrom]

theorem cursorAfter_congr (p i : Nat) : cursorAfter s' p i = cursorAfter s p i := by
  show cursorAfter { s with cfg := s'.cfg, rom := s'.rom } p i = cursorAfter s p i
  rw [hcfg, hrom]

theorem durOf_congr (c : Nat) : durOf s' c = durOf s c := by
  show durOf { s with cfg := s'.cfg, rom := s'.rom } c = durOf s c
  rw [hcfg, hrom]

end

/-- DUR_LOOKUP returns the code's duration (R145). -/
theorem durLookup_result (hlegal : s.cfg.legal = true) (c : BitVec 8) :
    ∃ st, s.durLookup c = { s with retDur := durOf s c.toNat, status := st } := by
  by_cases hc : s.cfg.nd ≤ c.toNat
  · rw [durOf, if_pos hc]
    exact ⟨_, durLookup_bad hc⟩
  · rw [durOf, if_neg hc]
    exact ⟨s.status, durLookup_good hlegal (Nat.not_le.1 hc)⟩

/-- With the ROM answering DUR_LOOKUP completes. -/
theorem execDurLookup_ack (hack : s.pins.romAck = true) (c : BitVec 8) :
    exec (.durLookup c) s = .next (s.durLookup c) := by
  show execDurLookup c s = _
  rw [execDurLookup, withRom_ack hack, ite_self]

/-- A step that runs DUR_LOOKUP with accepting pins (R145). -/
theorem step_durLookup {b : State} {p : Pins} {ps : List Pins} {dc : BitVec 8} (hcfg : s.cfg = b.cfg)
    (hrom : s.rom = b.rom) (hlegal : b.cfg.legal = true) (h : s.stimulus = p :: ps) (hp : accepting p = true)
    (htodo : s.todo = .op (.durLookup dc) :: rest) :
    ∃ st, step s = .next { s.taken p ps rest with retDur := durOf b dc.toNat, status := st } := by
  obtain ⟨hrst, -, -, hack⟩ := accepting_iff.1 hp
  obtain ⟨st, hdur⟩ := durLookup_result (s := s.taken p ps rest) ((congrArg Params.legal hcfg).trans hlegal) dc
  rw [durOf_congr (s := b) (s' := s.taken p ps rest) hcfg hrom] at hdur
  exact ⟨st, (step_scheduled h hrst htodo).trans ((execDurLookup_ack hack dc).trans (congrArg _ hdur))⟩

/-- A step that runs NEXT at a position of the sequence with accepting pins (R144). -/
theorem step_next {b : State} {p : Pins} {ps : List Pins} {c : Cursor} (hcfg : s.cfg = b.cfg)
    (hrom : s.rom = b.rom) (hlegal : b.cfg.legal = true) (hc : c.pos.toNat < b.cfg.k) (h : s.stimulus = p :: ps)
    (hp : accepting p = true) (htodo : s.todo = .op (.next c.pos c.idx) :: rest) :
    ∃ m st, step s = .next { s.taken p ps rest with
      retNext := cursorAfter b c.pos.toNat c.idx.toNat, retMeas := m, status := st } := by
  obtain ⟨hrst, -, -, hack⟩ := accepting_iff.1 hp
  obtain ⟨m, st, hnext, -⟩ := nextNote_eq (s := s.taken p ps rest) (i := c.idx)
    ((congrArg Params.legal hcfg).trans hlegal) (hc.trans_eq (congrArg Params.k hcfg).symm)
  rw [cursorAfter_congr (s := b) (s' := s.taken p ps rest) hcfg hrom] at hnext
  exact ⟨m, st, (step_scheduled h hrst htodo).trans ((withRom_ack hack _ _).trans (congrArg _ hnext))⟩

/-- With ports that accept, a note's sub-steps emit its voices, return its duration and store the next cursor (R143). -/
theorem runs_note {b : State} {c : Cursor} {rec : BitVec 32} (hcfg : s.cfg = b.cfg) (hrom : s.rom = b.rom)
    (hlegal : b.cfg.legal = true) (hc : c.pos.toNat < b.cfg.k) (hacc : accepts s 6 = true)
    (htodo : s.todo = playTasks rec c ++ rest) :
    ∃ p ps m st, RunsTo 6 s { s with
      pins := p, stimulus := ps, tick := s.tick + 3 + 1 + 1 + 1, rearm := false, romReq := false, todo := rest
      sndValid := false, sndVoice := 2, sndFreq := rec.extractLsb' 16 8
      trace := s.trace ++ [.snd 0 (rec.extractLsb' 0 8), .snd 1 (rec.extractLsb' 8 8), .snd 2 (rec.extractLsb' 16 8)]
      retDur := durOf b (rec.extractLsb' 24 8).toNat, retNext := cursorAfter b c.pos.toNat c.idx.toNat
      seqPos := (cursorAfter b c.pos.toNat c.idx.toNat).pos, noteIdx := (cursorAfter b c.pos.toNat c.idx.toNat).idx
      retMeas := m, status := st } := by
  obtain ⟨p, ps, hvoices, hacc⟩ := runs_voices (n := 3) hacc htodo
  obtain ⟨p4, ps4, rfl, h4, hacc⟩ := accepts_uncons hacc
  obtain ⟨p5, ps5, rfl, h5, hacc⟩ := accepts_uncons hacc
  obtain ⟨p6, ps6, rfl, h6, -⟩ := accepts_uncons hacc
  obtain ⟨st, hdur⟩ := step_durLookup (s := s.voiced (rec.extractLsb' 0 8) (rec.extractLsb' 8 8)
    (rec.extractLsb' 16 8) p (p4 :: p5 :: p6 :: ps6) (.op (.durLookup (rec.extractLsb' 24 8)) :: .op (.next c.pos c.idx) :: .storeCursor :: rest))
    hcfg hrom hlegal rfl h4 rfl
  simp only [State.taken, State.voiced] at hdur
  obtain ⟨m, st', hnext⟩ := step_next (s := { s with
      pins := p4, stimulus := p5 :: p6 :: ps6, tick := s.tick + 3 + 1, rearm := false, romReq := false
      todo := .op (.next c.pos c.idx) :: .storeCursor :: rest
      sndValid := false, sndVoice := 2, sndFreq := rec.extractLsb' 16 8
      trace := s.trace ++ [.snd 0 (rec.extractLsb' 0 8), .snd 1 (rec.extractLsb' 8 8), .snd 2 (rec.extractLsb' 16 8)]
      retDur := durOf b (rec.extractLsb' 24 8).toNat, status := st })
    hcfg hrom hlegal hc rfl h5 rfl
  have hrun := RunsTo.trans hvoices (.cons hdur (.cons hnext (.cons
    (step_scheduled (k := .storeCursor) rfl (rst_of_accepting h6) rfl) (.refl _))))
  simp only [State.taken, State.setCursor] at hrun
  exact ⟨_, _, _, _, hrun⟩

/-- Settles O35. -/
theorem advancePlaysNote : Obligations.AdvancePlaysNote := by
  unfold Obligations.AdvancePlaysNote
  intro s c rest hlegal hpos htodo hacc hc hin
  obtain ⟨p0, ps0, hst, h0, hacc⟩ := accepts_uncons hacc
  obtain ⟨hrst, -, -, hack⟩ := accepting_iff.1 h0
  obtain ⟨a, ha⟩ : ∃ a, a = s.taken p0 ps0 rest := ⟨_, rfl⟩
  have hcfg : a.cfg = s.cfg := by rw [ha]; rfl
  have hrom : a.rom = s.rom := by rw [ha]; rfl
  have hfound : firstPlayable a a.seqPos.toNat a.noteIdx.toNat = some c := by
    rw [firstPlayable_congr hcfg hrom, ha]
    exact hc
  have hrecord : inRom a (recordAddr a c) 4 = true := by
    rw [inRom_congr hcfg, recordAddr_congr hcfg hrom]
    exact hin
  obtain ⟨m, st, hadv, -⟩ := advance_inRom (s := a) (by rw [hcfg]; exact hlegal) (by rw [ha]; exact hpos)
    hfound hrecord
  rw [noteOf_congr hcfg hrom] at hadv
  have hfirst : step s = .next a.advance := by
    rw [ha]
    exact (step_scheduled hst hrst htodo).trans (withRom_ack hack _ _)
  rw [hadv, ha] at hfirst
  simp only [State.taken] at hfirst
  obtain ⟨p, ps, m', st', hnote⟩ := runs_note (b := s) (c := c) (rec := noteOf s c.pos.toNat c.idx.toNat)
    (rest := rest) (s := { s with
      pins := p0, stimulus := ps0, tick := s.tick + 1, rearm := false, romReq := false
      retFound := some c, retMeas := m, status := st
      todo := playTasks (noteOf s c.pos.toNat c.idx.toNat) c ++ rest })
    rfl rfl hlegal (firstPlayable_lt hlegal hpos hc) hacc rfl
  have hrun := RunsTo.cons hfirst hnote
  exact ⟨_, hrun, rfl, rfl, rfl, rfl⟩

/-! ### A quiet iteration (R172) -/

theorem clockKept_of_duty (h : ∀ t, s.lastSample = some t → clockDuty s.cfg t s.pins.msNow = true) :
    s.clockKept = true := by
  unfold State.clockKept
  split
  next => rfl
  next t ht => exact h t ht

/-- Between iterations a step with scheduled pins schedules the next iteration (R172). -/
theorem step_iterate {p : Pins} {ps : List Pins} (h : s.stimulus = p :: ps) (hrst : p.rst = false) (htodo : s.todo = [])
    (hphase : s.phase = .poll) : step s = .next (s.taken p ps []).iterate := by
  rw [step_begins ((congrArg Pins.rst (nextPins_scheduled h)).trans hrst) htodo, hphase, ← poised_eq_taken h,
    ← htodo]
  rfl

/-- VIDEO_TICK before its deadline, with a sample that keeps the clock's duty (R177). -/
theorem step_videoTick_ahead {p : Pins} {ps : List Pins} (h : s.stimulus = p :: ps) (hrst : p.rst = false)
    (htodo : s.todo = .op .videoTick :: rest)
    (hduty : ∀ t, s.lastSample = some t → clockDuty s.cfg t p.msNow = true)
    (hahead : passedTest s.cfg (p.msNow % s.cfg.clkMod) s.videoDl = false) :
    step s = .next { (s.taken p ps rest).sampleClock.passed (p.msNow % s.cfg.clkMod) s.videoDl with phase := .audio } :=
  (step_scheduled h hrst htodo).trans ((withClock_kept (clockKept_of_duty (s := s.taken p ps rest) hduty) _).trans
    (congrArg Host.Outcome.next (videoTick_ahead (s := s.taken p ps rest) hahead)))

/-- AUDIO_TICK before its deadline, with a sample that keeps the clock's duty (R178). -/
theorem step_audioTick_ahead {p : Pins} {ps : List Pins} (h : s.stimulus = p :: ps) (hrst : p.rst = false)
    (htodo : s.todo = .op .audioTick :: rest)
    (hduty : ∀ t, s.lastSample = some t → clockDuty s.cfg t p.msNow = true)
    (hahead : passedTest s.cfg (p.msNow % s.cfg.clkMod) s.audioDl = false) :
    step s = .next { (s.taken p ps rest).sampleClock.passed (p.msNow % s.cfg.clkMod) s.audioDl with phase := .poll } :=
  (step_scheduled h hrst htodo).trans ((withClock_kept (clockKept_of_duty (s := s.taken p ps rest) hduty) _).trans
    (congrArg Host.Outcome.next (audioTick_ahead (s := s.taken p ps rest) hahead)))

/-- A request step without a request goes on to the video tick (R172). -/
theorem step_request_none {p : Pins} {ps : List Pins} (h : s.stimulus = p :: ps) (hrst : p.rst = false)
    (htodo : s.todo = .request :: rest) (hm : s.mreq = false) (hu : s.ureq = false) :
    step s = .next { s.taken p ps rest with phase := .video } :=
  (step_scheduled h hrst htodo).trans (congrArg Host.Outcome.next (request_none (s := s.taken p ps rest) hm hu))

/-- Settles O43. -/
theorem quietIteration : Obligations.QuietIteration := by
  unfold Obligations.QuietIteration
  intro s p1 p2 p3 p4 p5 rest htodo hphase hstim h1 h2 h3 h4 h5 hmute hunmute hduty hduty' hvideo haudio
  have hiterate := step_iterate hstim h1 htodo hphase
  have hpoll := step_scheduled (k := .op .pollInput) (s := (s.taken p1 (p2 :: p3 :: p4 :: p5 :: rest) []).iterate)
    (rest := [.request, .op .videoTick, .op .audioTick]) rfl h2 rfl
  have hrequest := step_request_none (rest := [.op .videoTick, .op .audioTick]) (s := { s with
      pins := p2, stimulus := p3 :: p4 :: p5 :: rest, tick := s.tick + 1 + 1, rearm := true, romReq := false
      todo := [.request, .op .videoTick, .op .audioTick], phase := .req, mreq := !p2.muteN, ureq := !p2.unmuteN
      trace := s.trace ++ [.input p2.muteN p2.unmuteN] ++ [.rearm] }) rfl h3 rfl (by simp [hmute]) (by simp [hunmute])
  have hvideoTick := step_videoTick_ahead (rest := [.op .audioTick]) (s := { s with
      pins := p3, stimulus := p4 :: p5 :: rest, tick := s.tick + 1 + 1 + 1, rearm := false, romReq := false
      todo := [.op .videoTick, .op .audioTick], phase := .video, mreq := !p2.muteN, ureq := !p2.unmuteN
      trace := s.trace ++ [.input p2.muteN p2.unmuteN] ++ [.rearm] }) rfl h4 rfl hduty hvideo
  have haudioTick := step_audioTick_ahead (rest := []) (s := { s with
      pins := p4, stimulus := p5 :: rest, tick := s.tick + 1 + 1 + 1 + 1, rearm := false, romReq := false
      todo := [.op .audioTick], phase := .audio, mreq := !p2.muteN, ureq := !p2.unmuteN
      now := p4.msNow % s.cfg.clkMod, lastSample := some (p4.msNow % s.cfg.clkMod)
      retPassed := passedTest s.cfg (p4.msNow % s.cfg.clkMod) s.videoDl
      trace := s.trace ++ [.input p2.muteN p2.unmuteN] ++ [.rearm] ++ [.clock (p4.msNow % s.cfg.clkMod)] })
    rfl h5 rfl (fun t ht => by cases ht; exact hduty') haudio
  have hrun := RunsTo.cons hiterate (.cons hpoll (.cons hrequest (.cons hvideoTick (.cons haudioTick (.refl _)))))
  simp only [State.taken, State.sampleClock, State.passed, hmute, hunmute, ← htodo, ← hphase, List.append_assoc,
    List.cons_append, List.nil_append] at hrun
  rw [show passedTest s.cfg (p5.msNow % s.cfg.clkMod) s.audioDl = false from haudio] at hrun
  exact hrun

end Sys2Proof.Machine
end

section
/-! The frame's output (R110, R117 to R119): a line's transactions sent one a step, the events of a line, and a whole
frame row by row. -/

namespace Sys2Proof.Machine

open Sys2Proof.Safety

variable {s t u : State} {rest : List Task}

/-! ### Display transactions in a row -/

/-- The events of display transactions, in order. -/
def dispEvents (ops : List Instr) : List Event := ops.filterMap fun i => (dispOf i).map fun p => Event.disp p.1 p.2

theorem dispEvents_cons {i : Instr} {cmd : BitVec 2} {data : BitVec 64} (h : dispOf i = some (cmd, data))
    (ops : List Instr) : dispEvents (i :: ops) = .disp cmd data :: dispEvents ops := by
  simp only [dispEvents, List.filterMap_cons, h, Option.map_some]

/-- An accepted display transaction is one step (R38). -/
theorem step_disp {p : Pins} {ps : List Pins} {i : Instr} {cmd : BitVec 2} {data : BitVec 64}
    (hi : dispOf i = some (cmd, data)) (h : s.stimulus = p :: ps) (hp : accepting p = true)
    (htodo : s.todo = .op i :: rest) :
    step s = .next { s.taken p ps rest with
      dispValid := false, dispCmd := cmd, dispData := data, trace := s.trace ++ [.disp cmd data] } := by
  obtain ⟨hrst, hdisp, -, -⟩ := accepting_iff.1 hp
  exact (step_scheduled h hrst htodo).trans ((exec_of_dispOf hi _).trans
    (congrArg Host.Outcome.next (offerDisp_ready (s := s.taken p ps rest) hdisp _ _ _)))

/-- Accepted display transactions, one a step. -/
theorem runs_disp {ops : List Instr} {n : Nat} (hops : ∀ i ∈ ops, ∃ p, dispOf i = some p)
    (hacc : accepts s (ops.length + n) = true) (htodo : s.todo = ops.map .op ++ rest) (hrearm : s.rearm = false)
    (hreq : s.romReq = false) :
    ∃ v c d p ps k, RunsTo ops.length s { s with
        todo := rest, trace := s.trace ++ dispEvents ops, dispValid := v, dispCmd := c, dispData := d
        pins := p, stimulus := ps, tick := k } ∧
      accepts { s with stimulus := ps } n = true := by
  induction ops generalizing s with
  | nil =>
    refine ⟨s.dispValid, s.dispCmd, s.dispData, s.pins, s.stimulus, s.tick, ?_, by simpa using hacc⟩
    rw [← show s.todo = rest from htodo, dispEvents, List.filterMap_nil, List.append_nil]
    exact .refl s
  | cons i ops ih =>
    obtain ⟨⟨cmd, data⟩, hi⟩ := hops i (.head _)
    rw [List.length_cons, Nat.succ_add] at hacc
    obtain ⟨p0, ps0, hst, h0, hacc⟩ := accepts_uncons hacc
    have hfirst := step_disp hi hst h0 htodo
    simp only [State.taken] at hfirst
    obtain ⟨v, c, d, p, ps, k, hrun, hleft⟩ := ih (s := { s with
      pins := p0, stimulus := ps0, tick := s.tick + 1, rearm := false, romReq := false, todo := ops.map .op ++ rest
      dispValid := false, dispCmd := cmd, dispData := data, trace := s.trace ++ [.disp cmd data] })
      (fun j hj => hops j (.tail _ hj)) hacc rfl rfl rfl
    rw [dispEvents_cons hi, List.append_cons, hrearm, hreq]
    exact ⟨v, c, d, p, ps, k, .cons hfirst hrun, hleft⟩

/-! ### The events of one line (R117) -/

/-- A colour's pixel carries its 24 bits (R92). -/
theorem dispOf_pixelOf (v : Colour) : dispOf (pixelOf v) = some (2, v.setWidth 64) := by
  show some (2, pixelData (redOf v) (greenOf v) (blueOf v)) = _
  have hchannels : redOf v ++ greenOf v ++ blueOf v = v := by
    rw [redOf, greenOf, blueOf, BitVec.extractLsb'_append_extractLsb'_eq_extractLsb' (by rfl),
      BitVec.extractLsb'_append_extractLsb'_eq_extractLsb' (by rfl)]
    exact BitVec.extractLsb'_eq_self
  rw [pixelData_eq_setWidth, hchannels]

theorem dispEvents_pixels (line : List Colour) :
    dispEvents (line.map pixelOf) = line.map fun v => Event.disp 2 (v.setWidth 64) := by
  induction line with
  | nil => rfl
  | cons v line ih => rw [List.map_cons, dispEvents_cons (dispOf_pixelOf v), ih, List.map_cons]

/-- The events of a line's transactions are the window, the start and the passes over the line (R117). -/
theorem dispEvents_renderOps (c : Params) (line : List Colour) (r : Nat) :
    dispEvents (renderOps c line r) = renderEvents c r line := by
  have hpasses (n : Nat) : dispEvents (List.replicate n (line.map pixelOf)).flatten =
      (List.replicate n (line.map fun v => Event.disp 2 (v.setWidth 64))).flatten := by
    induction n with
    | zero => rfl
    | succ n ih =>
      rw [List.replicate_succ, List.flatten_cons, List.replicate_succ, List.flatten_cons, ← ih, ← dispEvents_pixels]
      exact List.filterMap_append
  rw [renderOps, windowOf, dispEvents_cons rfl, dispEvents_cons rfl, hpasses]
  rfl

theorem length_renderOps {c : Params} {line : List Colour} (h : line.length = c.w) (r : Nat) :
    (renderOps c line r).length = 2 + c.s * c.w := by
  simp only [renderOps, List.length_cons, List.length_flatten, List.map_replicate, List.length_map, h,
    List.sum_replicate, smul_eq_mul]
  omega

/-- RENDER_LINE with a display that accepts (R117). -/
theorem runs_renderLine {r : BitVec 16} {n : Nat} (hlen : s.line.length = s.cfg.w)
    (htodo : s.todo = .op (.renderLine r) :: rest) (hacc : accepts s (3 + s.cfg.s * s.cfg.w + n) = true) :
    ∃ v c d p ps k, RunsTo (3 + s.cfg.s * s.cfg.w) s { s with
        todo := rest, trace := s.trace ++ renderEvents s.cfg r.toNat s.line, rearm := false, romReq := false
        dispValid := v, dispCmd := c, dispData := d, pins := p, stimulus := ps, tick := k } ∧
      accepts { s with stimulus := ps } n = true := by
  have hsteps : 3 + s.cfg.s * s.cfg.w = (renderOps s.cfg s.line r.toNat).length + 1 := by
    rw [length_renderOps hlen]
    omega
  rw [hsteps, Nat.add_right_comm] at hacc
  obtain ⟨p0, ps0, hst, h0, hacc⟩ := accepts_uncons hacc
  have hfirst : step s = .next ((s.taken p0 ps0 rest).renderLine r) := step_scheduled hst (rst_of_accepting h0) htodo
  simp only [State.taken, State.renderLine, State.push] at hfirst
  obtain ⟨v, c, d, p, ps, k, hrun, hleft⟩ := runs_disp (n := n) (rest := rest) (s := { s with
    pins := p0, stimulus := ps0, tick := s.tick + 1, rearm := false, romReq := false
    todo := (renderOps s.cfg s.line r.toNat).map .op ++ rest }) (fun i hi => dispOf_renderOps hi) hacc rfl rfl rfl
  rw [dispEvents_renderOps] at hrun
  rw [hsteps]
  exact ⟨v, c, d, p, ps, k, .cons hfirst hrun, hleft⟩

/-- Settles O27. -/
theorem renderLineEmitsLine : Obligations.RenderLineEmitsLine := by
  unfold Obligations.RenderLineEmitsLine
  intro s r rest
  refine ⟨rfl, fun hlen htodo hacc => ?_⟩
  obtain ⟨v, c, d, p, ps, k, hrun, -⟩ := runs_renderLine (n := 0) hlen htodo hacc
  exact ⟨_, hrun, rfl⟩

/-! ### A frame, row by row (R110, R119) -/

/-- What the sub-steps of a frame leave: the parameters, the length of the line, and every register outside the
decoder (R181). -/
structure FrameKeeps (s t : State) : Prop where
  cfg : t.cfg = s.cfg
  lineLength : t.line.length = s.line.length
  audioDl : t.audioDl = s.audioDl
  muted : t.muted = s.muted
  seqPos : t.seqPos = s.seqPos
  noteIdx : t.noteIdx = s.noteIdx
  videoDl : t.videoDl = s.videoDl
  frameIdx : t.frameIdx = s.frameIdx
  pal : t.pal = s.pal

theorem FrameKeeps.refl (s : State) : FrameKeeps s s := ⟨rfl, rfl, rfl, rfl, rfl, rfl, rfl, rfl, rfl⟩

theorem FrameKeeps.trans (h : FrameKeeps s t) (k : FrameKeeps t u) : FrameKeeps s u where
  cfg := k.cfg.trans h.cfg
  lineLength := k.lineLength.trans h.lineLength
  audioDl := k.audioDl.trans h.audioDl
  muted := k.muted.trans h.muted
  seqPos := k.seqPos.trans h.seqPos
  noteIdx := k.noteIdx.trans h.noteIdx
  videoDl := k.videoDl.trans h.videoDl
  frameIdx := k.frameIdx.trans h.frameIdx
  pal := k.pal.trans h.pal

/-- The sub-steps of one source row (R110). -/
def rowTasks (r : Nat) : List Task :=
  [.setRow (BitVec.ofNat 16 r), .op .decodeRow, .op (.renderLine (BitVec.ofNat 16 r))]

theorem frameTasks_eq (c : Params) : frameTasks c = (List.range c.rs).flatMap rowTasks ++ [.frameEnd] := rfl

/-- A step that runs DECODE_ROW with accepting pins: the decode registers, `STATUS`, and a line of the same length. -/
theorem step_decodeRow {p : Pins} {ps : List Pins} (h : s.stimulus = p :: ps) (hp : accepting p = true)
    (htodo : s.todo = .op .decodeRow :: rest) :
    ∃ line x st d q l rp rem, line.length = s.line.length ∧ step s = .next { s.taken p ps rest with
      line := line, x := x, status := st, draws := d, curP := q, curL := l, rp := rp, rem := rem } := by
  obtain ⟨hrst, -, -, hack⟩ := accepting_iff.1 hp
  obtain ⟨line, x, st, d, q, l, rp, rem, hrow, hline, -⟩ := decodeRow_effect (s.taken p ps rest)
  exact ⟨line, x, st, d, q, l, rp, rem, hline,
    (step_scheduled h hrst htodo).trans ((execDecodeRow_ack hack).trans (congrArg _ hrow))⟩

/-- One source row: whatever its data, its window, its start and a line of `W` colours `S` times (R119). -/
theorem runs_row {r n : Nat} (hr : r < 2 ^ 16) (hlen : s.line.length = s.cfg.w) (htodo : s.todo = rowTasks r ++ rest)
    (hacc : accepts s (5 + s.cfg.s * s.cfg.w + n) = true) :
    ∃ t line, RunsTo (5 + s.cfg.s * s.cfg.w) s t ∧ FrameKeeps s t ∧ line.length = s.cfg.w ∧ t.todo = rest ∧
      t.trace = s.trace ++ renderEvents s.cfg r line ∧ accepts t n = true := by
  have hsteps : 5 + s.cfg.s * s.cfg.w + n = (3 + s.cfg.s * s.cfg.w + n) + 1 + 1 := by omega
  rw [hsteps] at hacc
  obtain ⟨p0, ps0, hst, h0, hacc⟩ := accepts_uncons hacc
  obtain ⟨p1, ps1, rfl, h1, hacc⟩ := accepts_uncons hacc
  have hrow : (BitVec.ofNat 16 r).toNat = r := toNat_ofNat_of_lt hr
  obtain ⟨b, hb⟩ : ∃ b, b = BitVec.ofNat 16 r := ⟨_, rfl⟩
  rw [rowTasks, ← hb] at htodo
  rw [← hb] at hrow
  have hfirst := step_scheduled hst (rst_of_accepting h0) htodo
  obtain ⟨line, x, st, d, q, l, rp, rem, hline, hsecond⟩ := step_decodeRow (rest := .op (.renderLine b) :: rest)
    (s := { s with
      pins := p0, stimulus := p1 :: ps1, tick := s.tick + 1, rearm := false, romReq := false, row := b
      todo := .op .decodeRow :: .op (.renderLine b) :: rest }) rfl h1 rfl
  obtain ⟨v, c, d', p, ps, k, hrun, hleft⟩ := runs_renderLine (n := n) (rest := rest) (r := b) (s := { s with
    pins := p1, stimulus := ps1, tick := s.tick + 1 + 1, rearm := false, romReq := false
    todo := .op (.renderLine b) :: rest, row := b
    line := line, x := x, status := st, draws := d, curP := q, curL := l, rp := rp, rem := rem })
    (hline.trans hlen) rfl hacc
  have hfinish := RunsTo.cons hfirst (.cons hsecond hrun)
  rw [hrow] at hfinish
  rw [show 5 + s.cfg.s * s.cfg.w = 3 + s.cfg.s * s.cfg.w + 1 + 1 by omega]
  exact ⟨_, line, hfinish, ⟨rfl, hline, rfl, rfl, rfl, rfl, rfl, rfl, rfl⟩, hline.trans hlen, rfl, rfl, hleft⟩

/-- Source rows in order from `r` on (R110, R119). -/
theorem runs_rows {m r n : Nat} (hr : r + m ≤ 2 ^ 16) (hlen : s.line.length = s.cfg.w)
    (htodo : s.todo = (List.range' r m).flatMap rowTasks ++ rest)
    (hacc : accepts s (m * (5 + s.cfg.s * s.cfg.w) + n) = true) :
    ∃ (t : State) (lines : List (List Colour)), RunsTo (m * (5 + s.cfg.s * s.cfg.w)) s t ∧ FrameKeeps s t ∧
      lines.length = m ∧ (∀ l ∈ lines, l.length = s.cfg.w) ∧ t.todo = rest ∧
      t.trace = s.trace ++ (lines.mapIdx fun i l => renderEvents s.cfg (r + i) l).flatten ∧ accepts t n = true := by
  induction m generalizing s r with
  | zero =>
    rw [Nat.zero_mul] at hacc ⊢
    rw [Nat.zero_add] at hacc
    exact ⟨s, [], .refl s, .refl s, rfl, nofun, htodo, (List.append_nil _).symm, hacc⟩
  | succ m ih =>
    have hsteps : (m + 1) * (5 + s.cfg.s * s.cfg.w) = 5 + s.cfg.s * s.cfg.w + m * (5 + s.cfg.s * s.cfg.w) := by
      rw [Nat.succ_mul, Nat.add_comm]
    rw [hsteps, Nat.add_assoc] at hacc
    rw [List.range'_succ, List.flatMap_cons, List.append_assoc] at htodo
    obtain ⟨t, line, hrow, hkeeps, hline, ht, htrace, hacc⟩ := runs_row (by omega) hlen htodo hacc
    obtain ⟨u, lines, hrows, hkeeps', hcount, hlines, hu, htrace', hleft⟩ := ih (s := t) (r := r + 1) (by omega)
      (by rw [hkeeps.lineLength, hkeeps.cfg, hlen]) ht (by rw [hkeeps.cfg]; exact hacc)
    rw [hkeeps.cfg] at hrows hlines htrace'
    refine ⟨u, line :: lines, hsteps ▸ hrow.trans hrows, hkeeps.trans hkeeps', by rw [List.length_cons, hcount],
      List.forall_mem_cons.2 ⟨hline, hlines⟩, hu, ?_, hleft⟩
    rw [htrace', htrace, List.mapIdx_cons, List.flatten_cons, List.append_assoc]
    simp only [Nat.add_zero, Nat.add_assoc, Nat.add_comm 1]

/-- The events of a frame that `p` counts, when it counts `k` in each line. -/
theorem countP_mapIdx_flatten {p : Event → Bool} {k : Nat} {lines : List (List Colour)}
    {f : Nat → List Colour → List Event} (h : ∀ i, ∀ l ∈ lines, (f i l).countP p = k) :
    (lines.mapIdx f).flatten.countP p = lines.length * k := by
  induction lines generalizing f with
  | nil => exact (Nat.zero_mul k).symm
  | cons l lines ih =>
    rw [List.mapIdx_cons, List.flatten_cons, List.countP_append, h 0 l (.head _),
      ih fun i l' hl' => h (i + 1) l' (.tail _ hl'), List.length_cons, Nat.succ_mul, Nat.add_comm]

/-- A line is two transactions and its pixels, `S` times (R117). -/
theorem countP_renderEvents {c : Params} {r : Nat} {line : List Colour} (h : line.length = c.w) :
    (renderEvents c r line).countP (fun _ => true) = 2 + c.s * c.w ∧
      (renderEvents c r line).countP isPixel = c.s * c.w := by
  have hpixels (p : Event → Bool) (hp : ∀ v : Colour, p (.disp 2 (v.setWidth 64)) = true) :
      (List.replicate c.s (line.map fun v => Event.disp 2 (v.setWidth 64))).flatten.countP p = c.s * c.w := by
    have hpass : (line.map fun v => Event.disp 2 (v.setWidth 64)).countP p = c.w := by
      rw [List.countP_eq_length.2 (by simpa using fun v _ => hp v), List.length_map, h]
    rw [List.countP_flatten, List.map_replicate, List.sum_replicate, hpass, smul_eq_mul]
  refine ⟨?_, ?_⟩
  · rw [renderEvents, List.countP_cons_of_pos rfl, List.countP_cons_of_pos rfl, hpixels _ fun _ => rfl]
    omega
  · rw [renderEvents, List.countP_cons_of_neg Bool.false_ne_true, List.countP_cons_of_neg Bool.false_ne_true,
      hpixels _ fun _ => rfl]

/-- Settles O28: the directory entry, the rows, the check of the words left over. -/
theorem frameOutputFixed : Obligations.FrameOutputFixed := by
  unfold Obligations.FrameOutputFixed
  intro s f rest hlegal hlen htodo hacc
  obtain ⟨hs, -, -, -, hh, -, hrs⟩ := legal_geometry hlegal
  have hrows16 : s.cfg.rs ≤ s.cfg.h := hrs ▸ Nat.le_mul_of_pos_right _ hs
  have hsteps : 2 + s.cfg.rs * (5 + s.cfg.s * s.cfg.w) = s.cfg.rs * (5 + s.cfg.s * s.cfg.w) + 1 + 1 := by omega
  rw [hsteps] at hacc ⊢
  obtain ⟨p0, ps0, hst, h0, hacc⟩ := accepts_uncons hacc
  obtain ⟨hrst, -, -, hack⟩ := accepting_iff.1 h0
  obtain ⟨st, d, rp, rem, hframe, -⟩ := decodeFrame_effect (s.taken p0 ps0 rest) f
  have hfirst : step s = .next _ :=
    (step_scheduled hst hrst htodo).trans ((withRom_ack hack _ _).trans (congrArg _ hframe))
  obtain ⟨t, lines, hrows, hkeeps, hcount, hlines, ht, htrace, hleft⟩ := runs_rows (n := 1) (r := 0) (m := s.cfg.rs)
    (rest := .frameEnd :: rest) (s := { s with
      pins := p0, stimulus := ps0, tick := s.tick + 1, rearm := false, romReq := false
      status := st, draws := d, rp := rp, rem := rem, todo := frameTasks s.cfg ++ rest })
    (by omega) hlen (by rw [frameTasks_eq, List.range_eq_range', List.append_assoc]; rfl) hacc
  obtain ⟨p1, ps1, hst1, h1, -⟩ := accepts_uncons hleft
  have hlast := (step_scheduled hst1 (rst_of_accepting h1) ht).trans (congrArg Host.Outcome.next (frameEnd_eq _))
  have hrun := RunsTo.cons hfirst (hrows.trans (.cons hlast (.refl _)))
  simp only [Nat.zero_add] at htrace
  refine ⟨_, lines, hrun, rfl, hcount, hlines, htrace, ?_, ?_, hkeeps.audioDl, hkeeps.muted, hkeeps.seqPos,
    hkeeps.noteIdx, hkeeps.videoDl, hkeeps.frameIdx, hkeeps.pal⟩
  · have hlength := countP_mapIdx_flatten (f := renderEvents s.cfg) fun i l hl =>
      (countP_renderEvents (r := i) (hlines l hl)).1
    rw [List.countP_true, hcount] at hlength
    exact (congrArg List.length htrace).trans (List.length_append.trans (congrArg _ hlength))
  · have hpixels := countP_mapIdx_flatten (f := renderEvents s.cfg) fun i l hl =>
      (countP_renderEvents (r := i) (hlines l hl)).2
    rw [hcount, ← Nat.mul_assoc, hrs, Nat.mul_comm, List.countP_eq_length_filter] at hpixels
    rw [← hpixels]
    exact congrArg (fun tr => ((List.drop s.trace.length tr).filter isPixel).length) htrace |>.trans
      (by rw [List.drop_left])

end Sys2Proof.Machine
end

section
/-! Video and audio are independent (R181, law a): with other values laid over the registers of the one, the sub-steps
of the other do the same but for them. Each operation commutes with the overlay, and commuting composes. -/

namespace Sys2Proof.Machine

open Sys2Proof.Safety

/-- `g` on what a sub-step answers; a fault or a refusal holds no state. -/
def Result.mapNext (g : State → State) (r : Result) : Result :=
  match r with
  | .next s => .next (g s)
  | .fault f => .fault f
  | .refused e => .refused e

/-- `g` lays other values over registers that neither a ROM read, nor a wait, nor a clock sample's check looks at. -/
structure Overlay (g : State → State) : Prop where
  cfg : ∀ s, (g s).cfg = s.cfg
  rom : ∀ s, (g s).rom = s.rom
  pins : ∀ s, (g s).pins = s.pins
  draws : ∀ s, (g s).draws = s.draws
  clockKept : ∀ s, (g s).clockKept = s.clockKept
  flag : ∀ s f, (g s).flag f = g (s.flag f)
  draw : ∀ s d, { g s with draws := d } = g { s with draws := d }
  push : ∀ s ts, (g s).push ts = g (s.push ts)
  romWait : ∀ s i, (g s).romWait i = g (s.romWait i)

theorem overlay_audio (u : State) : Overlay fun s => withAudioOf s u where
  cfg _ := rfl
  rom _ := rfl
  pins _ := rfl
  draws _ := rfl
  clockKept _ := rfl
  flag _ _ := rfl
  draw _ _ := rfl
  push _ _ := rfl
  romWait _ _ := rfl

theorem overlay_video (u : State) : Overlay fun s => withVideoOf s u where
  cfg _ := rfl
  rom _ := rfl
  pins _ := rfl
  draws _ := rfl
  clockKept _ := rfl
  flag _ _ := rfl
  draw _ _ := rfl
  push _ _ := rfl
  romWait _ _ := rfl

/-! ### What commutes with every overlay -/

section
variable {g : State → State} (hg : Overlay g)
include hg

theorem Overlay.flagIf (s : State) (b : Bool) (f : Flag) : (g s).flagIf b f = g (s.flagIf b f) := by
  cases b with
  | false => rfl
  | true => exact hg.flag s f

/-- A byte read answers the same under an overlay, and flags and draws the same (R53). -/
theorem Overlay.romByte (s : State) (a : Nat) : (g s).romByte a = ((s.romByte a).1, g (s.romByte a).2) := by
  unfold State.romByte
  rw [hg.cfg, hg.rom, hg.draws, hg.flag, hg.draw]
  split <;> rfl

/-- A read answers the same under an overlay (R52, R53). -/
theorem Overlay.memRead (n : Nat) (s : State) (a : Nat) :
    (g s).memRead a n = ((s.memRead a n).1, g (s.memRead a n).2) := by
  induction n generalizing a s with
  | zero => rfl
  | succ n ih => simp only [State.memRead, hg.romByte, ih]

theorem Overlay.withRom (s go : State) (i : Instr) : (g s).withRom i (g go) = Result.mapNext g (s.withRom i go) := by
  unfold State.withRom
  rw [hg.pins, hg.romWait]
  split <;> rfl

theorem Overlay.withClock (s go : State) : (g s).withClock (g go) = Result.mapNext g (s.withClock go) := by
  unfold State.withClock
  rw [hg.clockKept]
  split <;> rfl

end

/-! ### The sub-steps of video read no register of audio -/

/-- One pass of DECODE_ROW's loop, from what its read answers (R112). -/
theorem runNext_of_read {s s1 : State} {v : Nat} (h : s.memRead s.rp.toNat 2 = (v, s1)) :
    s.runNext = State.expandRun { s1 with
      rp := s.rp + 2, rem := s.rem - 1, curP := (BitVec.ofNat 16 v).extractLsb' 12 4
      curL := (BitVec.ofNat 16 v).extractLsb' 0 12 } := by
  simp only [State.runNext, State.runWord, h]

section
variable (s u : State)

theorem expandRun_withAudioOf : (withAudioOf s u).expandRun = withAudioOf s.expandRun u := by
  rw [expandRun_eq, expandRun_eq]
  rfl

theorem runNext_withAudioOf : (withAudioOf s u).runNext = withAudioOf s.runNext u := by
  obtain ⟨v, st, d, hread, -⟩ := memRead_pair 2 s.rp.toNat s
  have hread' : (withAudioOf s u).memRead s.rp.toNat 2 = (v, withAudioOf { s with status := st, draws := d } u) := by
    rw [(overlay_audio u).memRead, hread]
  rw [runNext_of_read hread, runNext_of_read (s := withAudioOf s u) hread']
  exact expandRun_withAudioOf { s with
    status := st, draws := d, rp := s.rp + 2, rem := s.rem - 1, curP := (BitVec.ofNat 16 v).extractLsb' 12 4
    curL := (BitVec.ofNat 16 v).extractLsb' 0 12 } u

theorem rowLoop_withAudioOf (fuel : Nat) :
    State.rowLoop fuel (withAudioOf s u) = withAudioOf (State.rowLoop fuel s) u := by
  induction fuel generalizing s with
  | zero => rfl
  | succ fuel ih =>
    rw [State.rowLoop, State.rowLoop, runNext_withAudioOf, ih, show (withAudioOf s u).x = s.x from rfl,
      show (withAudioOf s u).rem = s.rem from rfl, show (withAudioOf s u).cfg = s.cfg from rfl]
    split
    · split <;> rfl
    · rfl

theorem decodeFrame_withAudioOf (f : BitVec 8) : (withAudioOf s u).decodeFrame f = withAudioOf (s.decodeFrame f) u := by
  obtain ⟨a, st, d, ha, -⟩ := memRead_pair 4 (fdirAddr s.cfg f.toNat) s
  obtain ⟨n, st', d', hn, -⟩ := memRead_pair 4 (fdirAddr s.cfg f.toNat + 4) { s with status := st, draws := d }
  have ha' : (withAudioOf s u).memRead (fdirAddr s.cfg f.toNat) 4 =
      (a, withAudioOf { s with status := st, draws := d } u) := by
    rw [(overlay_audio u).memRead, ha]
  have hn' : (withAudioOf { s with status := st, draws := d } u).memRead (fdirAddr s.cfg f.toNat + 4) 4 =
      (n, withAudioOf { s with status := st', draws := d' } u) := by
    rw [(overlay_audio u).memRead, hn]
  rw [decodeFrame_of_reads ha hn, decodeFrame_of_reads (s := withAudioOf s u) ha' hn']
  rfl

theorem videoTick_withAudioOf : (withAudioOf s u).videoTick = withAudioOf s.videoTick u := by
  cases h : passedTest s.cfg s.sampleClock.now s.videoDl with
  | false => rw [videoTick_ahead h, videoTick_ahead (s := withAudioOf s u) h]; rfl
  | true => rw [videoTick_passed h, videoTick_passed (s := withAudioOf s u) h]; rfl

theorem offerDisp_withAudioOf (i : Instr) (c : BitVec 2) (d : BitVec 64) :
    (withAudioOf s u).offerDisp i c d = withAudioOf (s.offerDisp i c d) u := by
  cases h : s.pins.dispReady with
  | false => rw [offerDisp_busy h, offerDisp_busy (s := withAudioOf s u) h]; rfl
  | true => rw [offerDisp_ready h, offerDisp_ready (s := withAudioOf s u) h]; rfl

theorem execDecodeRow_withAudioOf :
    execDecodeRow (withAudioOf s u) = Result.mapNext (withAudioOf · u) (execDecodeRow s) := by
  have hrow : (withAudioOf s u).decodeRow = withAudioOf s.decodeRow u := rowLoop_withAudioOf { s with x := 0 } u _
  unfold execDecodeRow
  rw [hrow, (overlay_audio u).withRom, show (withAudioOf s u).rem = s.rem from rfl,
    show (withAudioOf s u).cfg = s.cfg from rfl]
  split <;> rfl

/-- A row of video does the same under other values of audio's registers. -/
theorem exec_withAudioOf {i : Instr} (hi : isVideo i = true) :
    exec i (withAudioOf s u) = Result.mapNext (withAudioOf · u) (exec i s) := by
  cases i with
  | run p l => exact congrArg Host.Outcome.next (expandRun_withAudioOf { s with curP := p, curL := l } u)
  | fdir | renderLine => rfl
  | dispSetwin | dispBegin | dispPixel => exact congrArg Host.Outcome.next (offerDisp_withAudioOf s u _ _ _)
  | videoTick =>
    refine Eq.trans ?_ ((overlay_audio u).withClock s s.videoTick)
    rw [← videoTick_withAudioOf]
    rfl
  | decodeFrame f =>
    refine Eq.trans ?_ ((overlay_audio u).withRom s (s.decodeFrame f) (.decodeFrame f))
    rw [← decodeFrame_withAudioOf]
    rfl
  | decodeRow => exact execDecodeRow_withAudioOf s u
  | expandRun => exact congrArg Host.Outcome.next (expandRun_withAudioOf s u)
  | _ => cases hi

/-- A sub-step of video does the same under other values of audio's registers. -/
theorem runTask_withAudioOf {k : Task} (hk : isVideoTask k = true) :
    runTask k (withAudioOf s u) = Result.mapNext (withAudioOf · u) (runTask k s) := by
  cases k with
  | op i => exact exec_withAudioOf s u hk
  | setRow | videoEnd => rfl
  | frameEnd => exact congrArg Host.Outcome.next ((overlay_audio u).flagIf s _ _)
  | _ => cases hk

end

/-! ### The sub-steps of audio read no register of video -/

section
variable (s u : State)

theorem memRead_withVideoOf (a n : Nat) :
    (withVideoOf s u).memRead a n = ((s.memRead a n).1, withVideoOf (s.memRead a n).2 u) :=
  (overlay_video u).memRead n s a

theorem withVideoOf_cfg : (withVideoOf s u).cfg = s.cfg := rfl
theorem withVideoOf_cnt : (withVideoOf s u).cnt = s.cnt := rfl
theorem withVideoOf_retMeas : (withVideoOf s u).retMeas = s.retMeas := rfl
theorem withVideoOf_retFound : (withVideoOf s u).retFound = s.retFound := rfl
theorem mdirWord_withVideoOf (a : Addr) (n : BitVec 8) :
    (withVideoOf s u).mdirWord a n = withVideoOf (s.mdirWord a n) u := rfl
theorem durWord_withVideoOf (t : BitVec 16) : (withVideoOf s u).durWord t = withVideoOf (s.durWord t) u := rfl
theorem push_withVideoOf (ts : List Task) : (withVideoOf s u).push ts = withVideoOf (s.push ts) u := rfl
theorem flag_withVideoOf (f : Flag) : (withVideoOf s u).flag f = withVideoOf (s.flag f) u := rfl

theorem readMdir_withVideoOf (m : BitVec 8) : (withVideoOf s u).readMdir m = withVideoOf (s.readMdir m) u := by
  simp only [State.readMdir, withVideoOf_cfg, memRead_withVideoOf, mdirWord_withVideoOf]

theorem seqWord_withVideoOf (m : BitVec 8) : (withVideoOf s u).seqWord m = withVideoOf (s.seqWord m) u := by
  unfold State.seqWord
  rw [withVideoOf_cfg, flag_withVideoOf, readMdir_withVideoOf]
  split <;> rfl

theorem meas_withVideoOf (p : Nat) : (withVideoOf s u).meas p = withVideoOf (s.meas p) u := by
  simp only [State.meas, withVideoOf_cfg, memRead_withVideoOf, seqWord_withVideoOf]

theorem scan_withVideoOf (n p i : Nat) :
    State.scan n p i (withVideoOf s u) = withVideoOf (State.scan n p i s) u := by
  induction n generalizing p i s with
  | zero => rfl
  | succ n ih =>
    simp only [State.scan, meas_withVideoOf, withVideoOf_cnt, withVideoOf_cfg, ih]
    split <;> rfl

theorem nextScan_withVideoOf (n q : Nat) :
    State.nextScan n q (withVideoOf s u) = withVideoOf (State.nextScan n q s) u := by
  induction n generalizing q s with
  | zero => rfl
  | succ n ih =>
    simp only [State.nextScan, meas_withVideoOf, withVideoOf_cnt, ih]
    split <;> rfl

theorem nextNote_withVideoOf (p i : BitVec 8) : (withVideoOf s u).nextNote p i = withVideoOf (s.nextNote p i) u := by
  simp only [State.nextNote, meas_withVideoOf, withVideoOf_cnt, withVideoOf_cfg, nextScan_withVideoOf]
  split <;> rfl

theorem durLookup_withVideoOf (c : BitVec 8) : (withVideoOf s u).durLookup c = withVideoOf (s.durLookup c) u := by
  simp only [State.durLookup, State.readDur, withVideoOf_cfg, memRead_withVideoOf, flag_withVideoOf, durWord_withVideoOf]
  split <;> rfl

theorem advance_withVideoOf : (withVideoOf s u).advance = withVideoOf s.advance u := by
  have hfound : (withVideoOf s u).normalise (withVideoOf s u).seqPos (withVideoOf s u).noteIdx =
      withVideoOf (s.normalise s.seqPos s.noteIdx) u := scan_withVideoOf s u _ _ _
  unfold State.advance
  rw [hfound, withVideoOf_retFound]
  cases (s.normalise s.seqPos s.noteIdx).retFound with
  | none => rfl
  | some c =>
    simp only [State.playNote, meas_withVideoOf, withVideoOf_retMeas, memRead_withVideoOf, push_withVideoOf]

theorem audioTick_withVideoOf : (withVideoOf s u).audioTick = withVideoOf s.audioTick u := by
  cases h : passedTest s.cfg s.sampleClock.now s.audioDl with
  | false => rw [audioTick_ahead h, audioTick_ahead (s := withVideoOf s u) h]; rfl
  | true => rw [audioTick_passed h, audioTick_passed (s := withVideoOf s u) h]; rfl

theorem execSndSet_withVideoOf (v : BitVec 2) (f : BitVec 8) :
    execSndSet v f (withVideoOf s u) = Result.mapNext (withVideoOf · u) (execSndSet v f s) := by
  have hoffer : (withVideoOf s u).offerSnd (.sndSet v f) v f = withVideoOf (s.offerSnd (.sndSet v f) v f) u := by
    cases h : s.pins.sndReady with
    | false => rw [offerSnd_busy h, offerSnd_busy (s := withVideoOf s u) h]; rfl
    | true => rw [offerSnd_ready h, offerSnd_ready (s := withVideoOf s u) h]; rfl
  unfold execSndSet
  rw [hoffer]
  split <;> rfl

theorem execSeq_withVideoOf (m : BitVec 8) :
    execSeq m (withVideoOf s u) = Result.mapNext (withVideoOf · u) (execSeq m s) := by
  unfold execSeq
  rw [withVideoOf_cfg, seqWord_withVideoOf, (overlay_video u).withRom]
  split <;> rfl

theorem execDurLookup_withVideoOf (c : BitVec 8) :
    execDurLookup c (withVideoOf s u) = Result.mapNext (withVideoOf · u) (execDurLookup c s) := by
  unfold execDurLookup
  rw [withVideoOf_cfg, durLookup_withVideoOf, (overlay_video u).withRom]
  split <;> rfl

/-- A row of audio that waits for the ROM, from its effect. -/
theorem withRom_withVideoOf {go go' : State} (i : Instr) (h : go' = withVideoOf go u) :
    (withVideoOf s u).withRom i go' = Result.mapNext (withVideoOf · u) (s.withRom i go) :=
  h ▸ (overlay_video u).withRom s go i

/-- A row of audio does the same under other values of video's registers. -/
theorem exec_withVideoOf {i : Instr} (hi : isAudio i = true) :
    exec i (withVideoOf s u) = Result.mapNext (withVideoOf · u) (exec i s) := by
  cases i with
  | mdir | note | dur | mutedFallback | songEmptyPause => rfl
  | seq m => exact execSeq_withVideoOf s u m
  | sndSet v f => exact execSndSet_withVideoOf s u v f
  | audioTick =>
    refine Eq.trans ?_ ((overlay_video u).withClock s s.audioTick)
    rw [← audioTick_withVideoOf]
    rfl
  | advance => exact withRom_withVideoOf s u _ (advance_withVideoOf s u)
  | meas p => exact withRom_withVideoOf s u _ (meas_withVideoOf s u _)
  | normalise pos idx => exact withRom_withVideoOf s u _ (scan_withVideoOf s u _ _ _)
  | next p j => exact withRom_withVideoOf s u _ (nextNote_withVideoOf s u p j)
  | durLookup c => exact execDurLookup_withVideoOf s u c
  | _ => cases hi

/-- A sub-step of audio does the same under other values of video's registers. -/
theorem runTask_withVideoOf {k : Task} (hk : isAudioTask k = true) :
    runTask k (withVideoOf s u) = Result.mapNext (withVideoOf · u) (runTask k s) := by
  cases k with
  | op i => exact exec_withVideoOf s u hk
  | storeCursor | clearCursor | returnFallback | audioEnd => rfl
  | _ => cases hk

end

/-- Settles O58: the overlay with a state's own values is that state, and any other overlay commutes. -/
theorem videoAudioIndependent : Obligations.VideoAudioIndependent := by
  unfold Obligations.VideoAudioIndependent
  intro k s t u h
  refine ⟨fun hk => ?video, fun hk => ?audio⟩
  case video =>
    have hself := runTask_withAudioOf s s hk
    have hother := runTask_withAudioOf s u hk
    rw [h] at hself hother
    exact ⟨(Host.Outcome.next.inj (h.symm.trans hself)).symm, hother⟩
  case audio =>
    have hself := runTask_withVideoOf s s hk
    have hother := runTask_withVideoOf s u hk
    rw [h] at hself hother
    exact ⟨(Host.Outcome.next.inj (h.symm.trans hself)).symm, hother⟩

end Sys2Proof.Machine
end
